-- ==== Sys2Proof/Word.lean ====
section
/-! DEFINITION. The one machine word the spec fixes: a byte. It is the unit of the stimulus trace
(30_encoding.md R81) and of the text sent to the display (R91). Registers have widths that are
parameters of the configuration and are natural numbers kept in range by an invariant
(notes/assumptions/3.md). -/

namespace Sys2Proof

/-- One byte of a trace or of display text. -/
abbrev Byte := BitVec 8

/-- The 24-bit repeat count of a format R item (30_encoding.md R83). -/
abbrev Count24 := BitVec 24

end Sys2Proof
end

