-- ==== Sys2Proof/Syntax.lean ====
section
/-! DEFINITION. The six trace steps, the instructions (one constructor per row of
spec/opcode_table.json), the codes they are written in and the reasons a code is refused.
30_encoding.md R80 to R87. -/

namespace Sys2Proof

/-- The six steps of 00_scope.md R17. -/
inductive TraceStep where
  | clk
  | pulse
  | svcPa
  | svcGt
  | main
  | reset
deriving DecidableEq, Repr

/-- The rows of spec/opcode_table.json, in the table's order. -/
inductive Instr where
  -- format S: one step (R82)
  | clk
  | pulse
  | svcPa
  | svcGt
  | main
  | reset
  -- format R: one step taken `n` times (R83)
  | clkRep (n : Count24)
  | pulseRep (n : Count24)
  | mainRep (n : Count24)
  -- sub-operations (R84)
  | paStart
  | paStop
  | paRead
  | oeReset
  | oeInc
  | gtStart
  | gtStop
  | gtLoad
  | gsReset
  | gsStep
  | cycleRestart
  | freqCombine
  | decFormat
  | dispClear
  | dispWrite
  -- behaviours of `GS_STEP` selected by `GS_STATE` (R85)
  | gsStepCounting
  | gsStepLastInterval
  | gsStepComplete
  -- behaviours of `MAIN` selected by `C_STATE` (R85)
  | mainBoot
  | mainPoll
  | mainLatch
  | mainClear
  | mainWrite
  | mainRestart
deriving DecidableEq, Repr

/-- The row that stands for one step in format S. -/
def TraceStep.instr : TraceStep → Instr
  | .clk => .clk
  | .pulse => .pulse
  | .svcPa => .svcPa
  | .svcGt => .svcGt
  | .main => .main
  | .reset => .reset

/-- What a row of the table is written in: an item of a trace (formats S and R), the
identification code of a sub-operation, or the value of the state register that selects a
behaviour (R81, R84, R85). Only the first may stand in a trace. -/
inductive Code where
  | item (bytes : List Byte)
  | sub (code : Byte)
  | gsSel (value : BitVec 2)
  | cSel (value : BitVec 3)
deriving DecidableEq, Repr

/-- The formats of spec/opcode_table.json. -/
inductive Format where
  | single
  | repeated
  | subOperation
  | gsState
  | cState
deriving DecidableEq, Repr

/-- One row of spec/opcode_table.json: a word `w` is the row's when `w &&& mask = pattern`. -/
structure Row where
  format : Format
  width : Nat
  pattern : Nat
  mask : Nat
deriving DecidableEq, Repr

/-- Why a code has no instruction (R84 to R86). -/
inductive DecodeError where
  /-- Nothing to decode: no byte is left. -/
  | noBytes
  /-- The first byte has `cls` other than `000`, every sub-operation code among them. -/
  | reservedClass (first : Byte)
  /-- `op` is `0x5` to `0xE`. -/
  | reservedOp (first : Byte)
  /-- Format R with a step that may not be repeated. -/
  | notRepeatable (first : Byte)
  /-- Format R with `n = 0`. -/
  | zeroCount (first : Byte)
  /-- A format R item cut short by the end of the trace. -/
  | truncated (first : Byte)
  /-- More bytes than one item where exactly one item is asked for. -/
  | trailingBytes
  /-- A byte that is no sub-operation code of R84. -/
  | notSubOperation (code : Byte)
  /-- `GS_STATE = 3`. -/
  | reservedGsState
  /-- `C_STATE = 6` or `7`. -/
  | reservedCState (value : BitVec 3)
deriving DecidableEq, Repr

end Sys2Proof
end

