-- ==== Sys2Proof/WellFormed.lean ====
section
/-! DEFINITION. The one check an instruction's operands need: a repeat count is at least 1
(30_encoding.md R83, R86). Its width, 24 bits, is in its type. The validity of a configuration
(00_scope.md R9) is `Config.Valid` in Machine/Constants.lean. -/

namespace Sys2Proof

/-- The spec gives the instruction an encoding: `n = 0` is illegal in the three repeat forms. -/
def Instr.wellFormed : Instr → Bool
  | .clkRep n => n != 0
  | .pulseRep n => n != 0
  | .mainRep n => n != 0
  | .clk | .pulse | .svcPa | .svcGt | .main | .reset => true
  | .paStart | .paStop | .paRead | .oeReset | .oeInc => true
  | .gtStart | .gtStop | .gtLoad | .gsReset | .gsStep => true
  | .cycleRestart | .freqCombine | .decFormat | .dispClear | .dispWrite => true
  | .gsStepCounting | .gsStepLastInterval | .gsStepComplete => true
  | .mainBoot | .mainPoll | .mainLatch | .mainClear | .mainWrite | .mainRestart => true

/-- `wellFormed` as a proposition. -/
abbrev Instr.WellFormed (i : Instr) : Prop := i.wellFormed = true

end Sys2Proof
end

