-- ==== Sys2Proof/Decode.lean ====
section
/-! DEFINITION. Reading instructions from their codes and writing them back (30_encoding.md R81 to
R87), the table's rows, and the host's table words. Every function is total and every code that has
no instruction is refused by name. -/

namespace Sys2Proof

/-! ### Fields of the first byte of an item (R81) -/

/-- Bit 7, `rep`: format R when set. -/
def repField (b : Byte) : Bool := b.getLsbD 7

/-- Bits 6:4, `cls`. -/
def clsField (b : Byte) : BitVec 3 := b.extractLsb' 4 3

/-- Bits 3:0, `op`. -/
def opField (b : Byte) : BitVec 4 := b.extractLsb' 0 4

/-- The byte with the given fields. -/
def packByte (rep : Bool) (cls : BitVec 3) (op : BitVec 4) : Byte :=
  BitVec.ofBool rep ++ cls ++ op

/-! ### Trace items (R82, R83, R86) -/

/-- The step codes of R82; `0x5` to `0xE` are reserved (R86). -/
def stepOfOp (op : BitVec 4) : Option TraceStep :=
  match op.toNat with
  | 0x0 => some .clk
  | 0x1 => some .pulse
  | 0x2 => some .svcPa
  | 0x3 => some .svcGt
  | 0x4 => some .main
  | 0xF => some .reset
  | _ => none

/-- The `op` of a step (R82). -/
def opOfStep : TraceStep → BitVec 4
  | .clk => 0x0
  | .pulse => 0x1
  | .svcPa => 0x2
  | .svcGt => 0x3
  | .main => 0x4
  | .reset => 0xF

/-- Format R of a step, for the three steps that may be repeated (R82, R83). -/
def repeatInstr : TraceStep → Count24 → Option Instr
  | .clk, n => some (.clkRep n)
  | .pulse, n => some (.pulseRep n)
  | .main, n => some (.mainRep n)
  | .svcPa, _ => none
  | .svcGt, _ => none
  | .reset, _ => none

/-- The count of a format R item from its bytes 1, 2 and 3, least significant byte first (R83). -/
def joinCount (b1 b2 b3 : Byte) : Count24 := b3 ++ b2 ++ b1

/-- Byte `k` of a count, `k = 0` the least significant. -/
def countByte (n : Count24) (k : Nat) : Byte := n.extractLsb' (8 * k) 8

/-- The rest of a format R item: three count bytes, `n` not zero, a step that may be repeated
(R83, R86). -/
def decodeRepeat (st : TraceStep) (first : Byte) : List Byte → Except DecodeError (Instr × List Byte)
  | b1 :: b2 :: b3 :: rest =>
    match repeatInstr st (joinCount b1 b2 b3) with
    | none => .error (.notRepeatable first)
    | some i => if joinCount b1 b2 b3 = 0 then .error (.zeroCount first) else .ok (i, rest)
  | _ => .error (.truncated first)

/-- The first item of a trace and the bytes after it (R81, R86, R87). -/
def decodeItem : List Byte → Except DecodeError (Instr × List Byte)
  | [] => .error .noBytes
  | b0 :: rest =>
    if clsField b0 ≠ 0 then .error (.reservedClass b0)
    else
      match stepOfOp (opField b0) with
      | none => .error (.reservedOp b0)
      | some st => if repField b0 then decodeRepeat st b0 rest else .ok (st.instr, rest)

/-- Length of an item from its first byte (R87). -/
def itemLength (first : Byte) : Nat := if repField first then 4 else 1

/-- Look for the first ill-formed item of a trace: its offset from `at_` and why. The model refuses
a whole trace at the offending byte (R86). `fuel` bounds the number of items. -/
def traceErrorFrom : Nat → Nat → List Byte → Option (Nat × DecodeError)
  | 0, _, _ => none
  | _ + 1, _, [] => none
  | fuel + 1, at_, b :: bs =>
    match decodeItem (b :: bs) with
    | .error e => some (at_, e)
    | .ok (_, rest) => traceErrorFrom fuel (at_ + itemLength b) rest

/-- The first ill-formed item of a trace, if there is one (R86). -/
def traceError (bs : List Byte) : Option (Nat × DecodeError) := traceErrorFrom bs.length 0 bs

/-! ### Row codes outside a trace (R84, R85) -/

/-- The sub-operations of R84 by their low four bits; `0x1F` is no code. -/
def subOfOp (op : BitVec 4) : Option Instr :=
  match op.toNat with
  | 0x0 => some .paStart
  | 0x1 => some .paStop
  | 0x2 => some .paRead
  | 0x3 => some .oeReset
  | 0x4 => some .oeInc
  | 0x5 => some .gtStart
  | 0x6 => some .gtStop
  | 0x7 => some .gtLoad
  | 0x8 => some .gsReset
  | 0x9 => some .gsStep
  | 0xA => some .cycleRestart
  | 0xB => some .freqCombine
  | 0xC => some .decFormat
  | 0xD => some .dispClear
  | 0xE => some .dispWrite
  | _ => none

/-- A sub-operation from its identification code: `rep = 0`, `cls = 001` (R84). -/
def decodeSub (b : Byte) : Except DecodeError Instr :=
  if repField b ∨ clsField b ≠ 1 then .error (.notSubOperation b)
  else
    match subOfOp (opField b) with
    | none => .error (.notSubOperation b)
    | some i => .ok i

/-- The behaviour of `GS_STEP` that a value of `GS_STATE` selects (R85); 3 is reserved (R86). -/
def decodeGsSel (v : BitVec 2) : Except DecodeError Instr :=
  match v.toNat with
  | 0 => .ok .gsStepCounting
  | 1 => .ok .gsStepLastInterval
  | 2 => .ok .gsStepComplete
  | _ => .error .reservedGsState

/-- The behaviour of `MAIN` that a value of `C_STATE` selects (R85); 6 and 7 are reserved (R86). -/
def decodeCSel (v : BitVec 3) : Except DecodeError Instr :=
  match v.toNat with
  | 0 => .ok .mainBoot
  | 1 => .ok .mainPoll
  | 2 => .ok .mainLatch
  | 3 => .ok .mainClear
  | 4 => .ok .mainWrite
  | 5 => .ok .mainRestart
  | _ => .error (.reservedCState v)

/-- The instruction a code stands for: an item must be exactly one item. -/
def decode : Code → Except DecodeError Instr
  | .item bytes =>
    match decodeItem bytes with
    | .error e => .error e
    | .ok (i, []) => .ok i
    | .ok (_, _ :: _) => .error .trailingBytes
  | .sub code => decodeSub code
  | .gsSel value => decodeGsSel value
  | .cSel value => decodeCSel value

/-! ### Encoding -/

/-- Format S of a step (R81, R82). -/
def singleItem (st : TraceStep) : Code := .item [packByte false 0 (opOfStep st)]

/-- Format R of a step (R81, R83). -/
def repeatItem (st : TraceStep) (n : Count24) : Code :=
  .item [packByte true 0 (opOfStep st), countByte n 0, countByte n 1, countByte n 2]

/-- The code of an instruction, from the tables of R82 to R85. -/
def encode : Instr → Code
  | .clk => singleItem .clk
  | .pulse => singleItem .pulse
  | .svcPa => singleItem .svcPa
  | .svcGt => singleItem .svcGt
  | .main => singleItem .main
  | .reset => singleItem .reset
  | .clkRep n => repeatItem .clk n
  | .pulseRep n => repeatItem .pulse n
  | .mainRep n => repeatItem .main n
  | .paStart => .sub 0x10
  | .paStop => .sub 0x11
  | .paRead => .sub 0x12
  | .oeReset => .sub 0x13
  | .oeInc => .sub 0x14
  | .gtStart => .sub 0x15
  | .gtStop => .sub 0x16
  | .gtLoad => .sub 0x17
  | .gsReset => .sub 0x18
  | .gsStep => .sub 0x19
  | .cycleRestart => .sub 0x1A
  | .freqCombine => .sub 0x1B
  | .decFormat => .sub 0x1C
  | .dispClear => .sub 0x1D
  | .dispWrite => .sub 0x1E
  | .gsStepCounting => .gsSel 0
  | .gsStepLastInterval => .gsSel 1
  | .gsStepComplete => .gsSel 2
  | .mainBoot => .cSel 0
  | .mainPoll => .cSel 1
  | .mainLatch => .cSel 2
  | .mainClear => .cSel 3
  | .mainWrite => .cSel 4
  | .mainRestart => .cSel 5

/-- The bytes of a trace item, and no bytes for a code that may not stand in a trace (R84). -/
def Code.traceBytes : Code → List Byte
  | .item bytes => bytes
  | .sub _ => []
  | .gsSel _ => []
  | .cSel _ => []

/-- The bytes of a trace written from its instructions. -/
def encodeTrace (is : List Instr) : List Byte := is.flatMap fun i => (encode i).traceBytes

/-- An instruction that may stand in a trace: formats S and R (R81, R84). -/
def Instr.traceItem (i : Instr) : Bool :=
  match encode i with
  | .item _ => true
  | .sub _ => false
  | .gsSel _ => false
  | .cSel _ => false

/-- The steps an item stands for: one, or `n` of the same (R83). Row codes that may not stand in a
trace stand for none. -/
def Instr.steps : Instr → List TraceStep
  | .clk => [.clk]
  | .pulse => [.pulse]
  | .svcPa => [.svcPa]
  | .svcGt => [.svcGt]
  | .main => [.main]
  | .reset => [.reset]
  | .clkRep n => List.replicate n.toNat .clk
  | .pulseRep n => List.replicate n.toNat .pulse
  | .mainRep n => List.replicate n.toNat .main
  | .paStart | .paStop | .paRead | .oeReset | .oeInc => []
  | .gtStart | .gtStop | .gtLoad | .gsReset | .gsStep => []
  | .cycleRestart | .freqCombine | .decFormat | .dispClear | .dispWrite => []
  | .gsStepCounting | .gsStepLastInterval | .gsStepComplete => []
  | .mainBoot | .mainPoll | .mainLatch | .mainClear | .mainWrite | .mainRestart => []

/-! ### Table words

spec/opcode_table.json reads an item as a little-endian word, bit 0 the least significant bit of
the first byte. Its `GS_STATE` and `C_STATE` rows are 2 and 3 bits wide and are told from bytes by
that width alone (notes/assumptions/20.md). -/

/-- Byte `k` of a table word. -/
def wordByte (w k : Nat) : Byte := BitVec.ofNat 8 (w / 2 ^ (8 * k))

/-- The bytes of a table word: one byte, or four when bit 7 of the first is set (R87). -/
def wordItem (w : Nat) : List Byte :=
  if repField (wordByte w 0) then [wordByte w 0, wordByte w 1, wordByte w 2, wordByte w 3]
  else [wordByte w 0]

/-- The code a table word of `nbits` bits is: a selector for widths 2 and 3, else bytes, which are
a sub-operation code when `rep = 0` and `cls = 001` and a trace item otherwise. -/
def codeOfTableWord (nbits w : Nat) : Code :=
  if nbits = 2 then .gsSel (BitVec.ofNat 2 w)
  else if nbits = 3 then .cSel (BitVec.ofNat 3 w)
  else if repField (wordByte w 0) = false ∧ clsField (wordByte w 0) = 1 then .sub (wordByte w 0)
  else .item (wordItem w)

/-- The instruction the decoder reads from a table word, `none` where it refuses. -/
def decodeTableWord (nbits w : Nat) : Option Instr :=
  match decode (codeOfTableWord nbits w) with
  | .ok i => some i
  | .error _ => none

/-- The row of spec/opcode_table.json an instruction stands for. -/
def Instr.row : Instr → Row
  | .clk => ⟨.single, 8, 0x00, 0xFF⟩
  | .pulse => ⟨.single, 8, 0x01, 0xFF⟩
  | .svcPa => ⟨.single, 8, 0x02, 0xFF⟩
  | .svcGt => ⟨.single, 8, 0x03, 0xFF⟩
  | .main => ⟨.single, 8, 0x04, 0xFF⟩
  | .reset => ⟨.single, 8, 0x0F, 0xFF⟩
  | .clkRep _ => ⟨.repeated, 32, 0x80, 0xFF⟩
  | .pulseRep _ => ⟨.repeated, 32, 0x81, 0xFF⟩
  | .mainRep _ => ⟨.repeated, 32, 0x84, 0xFF⟩
  | .paStart => ⟨.subOperation, 8, 0x10, 0xFF⟩
  | .paStop => ⟨.subOperation, 8, 0x11, 0xFF⟩
  | .paRead => ⟨.subOperation, 8, 0x12, 0xFF⟩
  | .oeReset => ⟨.subOperation, 8, 0x13, 0xFF⟩
  | .oeInc => ⟨.subOperation, 8, 0x14, 0xFF⟩
  | .gtStart => ⟨.subOperation, 8, 0x15, 0xFF⟩
  | .gtStop => ⟨.subOperation, 8, 0x16, 0xFF⟩
  | .gtLoad => ⟨.subOperation, 8, 0x17, 0xFF⟩
  | .gsReset => ⟨.subOperation, 8, 0x18, 0xFF⟩
  | .gsStep => ⟨.subOperation, 8, 0x19, 0xFF⟩
  | .cycleRestart => ⟨.subOperation, 8, 0x1A, 0xFF⟩
  | .freqCombine => ⟨.subOperation, 8, 0x1B, 0xFF⟩
  | .decFormat => ⟨.subOperation, 8, 0x1C, 0xFF⟩
  | .dispClear => ⟨.subOperation, 8, 0x1D, 0xFF⟩
  | .dispWrite => ⟨.subOperation, 8, 0x1E, 0xFF⟩
  | .gsStepCounting => ⟨.gsState, 2, 0x0, 0x3⟩
  | .gsStepLastInterval => ⟨.gsState, 2, 0x1, 0x3⟩
  | .gsStepComplete => ⟨.gsState, 2, 0x2, 0x3⟩
  | .mainBoot => ⟨.cState, 3, 0x0, 0x7⟩
  | .mainPoll => ⟨.cState, 3, 0x1, 0x7⟩
  | .mainLatch => ⟨.cState, 3, 0x2, 0x7⟩
  | .mainClear => ⟨.cState, 3, 0x3, 0x7⟩
  | .mainWrite => ⟨.cState, 3, 0x4, 0x7⟩
  | .mainRestart => ⟨.cState, 3, 0x5, 0x7⟩

/-- A code read as a number, the first byte least significant, as the table reads it. -/
def Code.value : Code → Nat
  | .item bytes => bytes.foldr (fun b acc => b.toNat + 256 * acc) 0
  | .sub code => code.toNat
  | .gsSel value => value.toNat
  | .cSel value => value.toNat

/-- The width of a code in bits. -/
def Code.width : Code → Nat
  | .item bytes => 8 * bytes.length
  | .sub _ => 8
  | .gsSel _ => 2
  | .cSel _ => 3

end Sys2Proof
end

