-- ==== Sys2Proof/Config.lean ====
section
/-! DEFINITION. The configuration record of 00_scope.md R7: build-time constants, none of them
runtime state. The derived constants of R8 and the validity of R9 are in Machine/Constants.lean. -/

namespace Sys2Proof

/-- Which transition of the input is a `PULSE` (R7 `EDGE`, 92_eei_decisions.md D5). It names what a
`PULSE` step stands for, and no rule reads it (U12; notes/assumptions/26.md). -/
inductive Edge where
  | rising
  | falling
deriving DecidableEq, Repr

/-- The primary parameters of R7, one field each. -/
structure Config where
  /-- `W1`: width of the Pulse Accumulator count register. -/
  w1 : Nat
  /-- `W2`: width of OverflowTally. -/
  w2 : Nat
  /-- `WG`: width of the Gate Timer count register. -/
  wg : Nat
  /-- `WB`: width of the remaining-overflow counter. -/
  wb : Nat
  /-- `CLK_HZ`: frequency of the internal clock in Hz. -/
  clkHz : Nat
  /-- `PRESCALE`: division ratio of the prescaler. -/
  prescale : Nat
  /-- `EDGE`: which input transition is counted. -/
  edge : Edge
  /-- `DISPLAY_LINE`: argument of the clear-line operation, carried uninterpreted (R164). -/
  displayLine : Nat
  /-- `STARTUP_DELAY_CLK`: informational, read by no rule (D18). -/
  startupDelayClk : Nat
deriving DecidableEq, Repr

/-- DESIGN CHOICE (notes/assumptions/2.md): the OPEN value of `DISPLAY_LINE` (R7, U13). -/
opaque Config.openDisplayLine : Nat

/-- DESIGN CHOICE (notes/assumptions/2.md): the OPEN value of `STARTUP_DELAY_CLK` (R7, U14). -/
opaque Config.openStartupDelayClk : Nat

/-- The configuration DEFAULT of R7 and R10. -/
def Config.default : Config where
  w1 := 16
  w2 := 8
  wg := 8
  wb := 8
  clkHz := 20000000
  prescale := 1024
  edge := .rising
  displayLine := Config.openDisplayLine
  startupDelayClk := Config.openStartupDelayClk

/-- The configuration TOY of R11, defined for test vectors. -/
def Config.toy : Config where
  w1 := 4
  w2 := 2
  wg := 2
  wb := 2
  clkHz := 22
  prescale := 2
  edge := .rising
  displayLine := Config.openDisplayLine
  startupDelayClk := Config.openStartupDelayClk

end Sys2Proof
end

