-- ==== Sys2Proof/Machine/Constants.lean ====
section
/-! DEFINITION. The derived constants of a configuration (00_scope.md R8) and its validity (R9). -/

namespace Sys2Proof

/-- `T`, prescaled ticks in one gate: `floor(CLK_HZ / PRESCALE)` (R8, D2). -/
def Config.gateTicks (c : Config) : Nat := c.clkHz / c.prescale

/-- `P`, ticks between two overflows of a free-running Gate Timer: `2^WG` (R8). -/
def Config.ovfPeriod (c : Config) : Nat := 2 ^ c.wg

/-- `B`, FC's GateOverflowBudget: `ceil(T / P) - 1` (R8, D3). -/
def Config.gateBudget (c : Config) : Nat := (c.gateTicks + c.ovfPeriod - 1) / c.ovfPeriod - 1

/-- `RT`, ticks of the last, partial interval: `T - B * P` (R8). -/
def Config.gateResidualTicks (c : Config) : Nat := c.gateTicks - c.gateBudget * c.ovfPeriod

/-- `R`, FC's GateResidual, the preload value: `P - RT` (R8). -/
def Config.gatePreload (c : Config) : Nat := c.ovfPeriod - c.gateResidualTicks

/-- Bits needed to hold `n`, 0 for 0. -/
def bitsToHold (n : Nat) : Nat := if n = 0 then 0 else Nat.log2 n + 1

/-- `WP`, the width of `PRE_CNT` (R8). -/
def Config.wp (c : Config) : Nat := bitsToHold (c.prescale - 1)

/-- `WF`, the width of the combined count (R8). -/
def Config.wf (c : Config) : Nat := c.w1 + c.w2

/-- Decimal digits of `n`, one for 0; `fuel` bounds the digits counted. -/
def digitCountFrom : Nat → Nat → Nat
  | 0, _ => 1
  | fuel + 1, n => if n < 10 then 1 else digitCountFrom fuel (n / 10) + 1

/-- Number of decimal digits of `n`. -/
def digitCount (n : Nat) : Nat := digitCountFrom n n

/-- `MAX_DIGITS`: decimal digits of `2^WF - 1` (R8). -/
def Config.maxDigits (c : Config) : Nat := digitCount (2 ^ c.wf - 1)

/-- `GATE_CLKS`: `CLK` cycles in one exact gate, `T * PRESCALE` (R8). -/
def Config.gateClks (c : Config) : Nat := c.gateTicks * c.prescale

/-- A configuration the model gives a meaning to (R9, D29). -/
abbrev Config.Valid (c : Config) : Prop :=
  1 ≤ c.w1 ∧ 1 ≤ c.w2 ∧ 1 ≤ c.wg ∧ 1 ≤ c.wb ∧ 1 ≤ c.clkHz ∧ 1 ≤ c.prescale ∧
    1 ≤ c.gateBudget ∧ c.gateBudget ≤ 2 ^ c.wb - 1

end Sys2Proof
end

