-- ==== Sys2Proof/Machine/State.lean ====
section
/-! DEFINITION. The machine's state: the record of 10_state.md R20, and beside it the model's own
fields (the configuration, the stimulus trace, the test bench's port); the stops; the reset state
of R45. Updates of one field each stand beside it. -/

namespace Sys2Proof.Machine

/-- `U.CS`: the clock source a unit counts (10_state.md R28). -/
inductive ClockSource where
  | int
  | ext
deriving DecidableEq, Repr

/-- The two counting units (R21). -/
inductive UnitId where
  | pa
  | gt
deriving DecidableEq, Repr

/-- One counting unit: its count register and four control bits (R21, R26 to R30). -/
structure CountUnit where
  /-- `U.CNT` (R22, R24). -/
  cnt : Nat
  /-- `U.EN`: counting enabled (R27). -/
  en : Bool
  /-- `U.CS`: clock source (R28). -/
  cs : ClockSource
  /-- `U.OVIE`: overflow interrupt enabled (R29). -/
  ovie : Bool
  /-- `U.OVF`: overflow event pending (R30). -/
  ovf : Bool
deriving DecidableEq, Repr

/-- `GS_STATE` (R34); the reserved value 3 is not in the type (R86). -/
inductive GsState where
  | counting
  | lastInterval
  | complete
deriving DecidableEq, Repr

/-- `C_STATE` (R38); the reserved values 6 and 7 are not in the type (R86). -/
inductive CState where
  | boot
  | poll
  | latch
  | clear
  | write
  | restart
deriving DecidableEq, Repr

/-- One element of `DISP_LOG` (R39): `DispClear(line)` (R164) or `DispWrite(bytes)` (R165). -/
inductive DispEvent where
  | clear (line : Nat)
  | write (bytes : List Byte)
deriving DecidableEq, Repr

/-- The MODEL's own port of a test bench (DESIGN CHOICE, notes/assumptions/8.md and 9.md): the row
it asks the next step to run alone, and where operations run alone take and leave operands. -/
structure Bench where
  /-- A row code to run at the next step in place of a trace item. -/
  request : Option Code
  /-- Result of `PA_READ` and `FREQ_COMBINE`, operand of `DEC_FORMAT`. -/
  num : Nat
  /-- Result of `DEC_FORMAT`, operand of `DISP_WRITE`. -/
  text : List Byte
deriving DecidableEq, Repr

/-- The machine. -/
structure State where
  /-- The configuration, fixed (00_scope.md R7; the model's own place for it,
  notes/assumptions/1.md). -/
  cfg : Config
  /-- The Pulse Accumulator. -/
  pa : CountUnit
  /-- The Gate Timer. -/
  gt : CountUnit
  /-- `PRE_CNT`: phase of the prescaler (R31). -/
  preCnt : Nat
  /-- `OVF_TALLY` (R32). -/
  ovfTally : Nat
  /-- `GS_REMAIN`: overflows left before the last interval (R33). -/
  gsRemain : Nat
  /-- `GS_STATE` (R34). -/
  gsState : GsState
  /-- `DATA_READY` (R35). -/
  dataReady : Bool
  /-- `FREQ`: the combined count latched by the controller (R37). -/
  freq : Nat
  /-- `C_STATE` (R38). -/
  cState : CState
  /-- `DISP_LOG`: what was sent to the display since reset, oldest first (R39). -/
  dispLog : List DispEvent
  /-- Bytes of the stimulus trace not yet taken (30_encoding.md R80; the model's own place for
  them, notes/assumptions/4.md). -/
  trace : List Byte
  /-- The test bench's port, the model's own. -/
  bench : Bench
deriving DecidableEq, Repr

/-- Ways for the machine to be stuck: `step` is `none` in the spec's words (00_scope.md R17). The
hardware raises no fault (60_exceptions.md R200). All are safe: no next state is given. -/
inductive Fault where
  /-- Raised by `SVC_PA` when `PA.OVF = 1 and PA.OVIE = 1` does not hold (R204, U9). Safe. -/
  | svcPaNotEnabled
  /-- Raised by `SVC_GT` when `GT.OVF = 1 and GT.OVIE = 1` does not hold (R204, U9). Safe. -/
  | svcGtNotEnabled
  /-- Raised by `MAIN`, `MAIN*n` and the `MAIN` rows while an event is serviceable (R206, U9).
  Safe. -/
  | mainNotEnabled
  /-- Raised by a behaviour row run alone while its state register selects another behaviour (R85;
  notes/assumptions/10.md). Safe. -/
  | behaviourNotSelected
  /-- Raised by the step when the stimulus trace is used up (notes/assumptions/4.md). Safe. -/
  | traceEnded
deriving DecidableEq, Repr

/-- Inputs the model gives no meaning. All are safe: no next state is given. -/
inductive Refusal where
  /-- An instruction not modelled yet, by its mnemonic. Raised by no arm. Safe. -/
  | notModelled (mnemonic : String)
  /-- Raised by every instruction in a configuration that is not valid (00_scope.md R9, D29).
  Safe. -/
  | invalidConfig
  /-- Raised by a repeat form with `n = 0`, illegal by 30_encoding.md R83 (notes/assumptions/6.md).
  Safe. -/
  | zeroRepeat
  /-- Raised by the step for a trace with an ill-formed item: its offset and why (R86, U8). Safe. -/
  | illFormedTrace (at_ : Nat) (why : DecodeError)
  /-- Raised by the step for a bench request that is no code of the table (R84 to R86). Safe. -/
  | reservedCode (why : DecodeError)
deriving DecidableEq, Repr

/-! ### Updates of one field -/

def State.setPa (s : State) (u : CountUnit) : State := { s with pa := u }
def State.setGt (s : State) (u : CountUnit) : State := { s with gt := u }
def State.setPreCnt (s : State) (n : Nat) : State := { s with preCnt := n }
def State.setOvfTally (s : State) (n : Nat) : State := { s with ovfTally := n }
def State.setGsRemain (s : State) (n : Nat) : State := { s with gsRemain := n }
def State.setGsState (s : State) (g : GsState) : State := { s with gsState := g }
def State.setDataReady (s : State) (b : Bool) : State := { s with dataReady := b }
def State.setFreq (s : State) (n : Nat) : State := { s with freq := n }
def State.setCState (s : State) (c : CState) : State := { s with cState := c }
def State.setDispLog (s : State) (l : List DispEvent) : State := { s with dispLog := l }
def State.setTrace (s : State) (bs : List Byte) : State := { s with trace := bs }
def State.setBench (s : State) (b : Bench) : State := { s with bench := b }

/-! ### Reset -/

/-- A counting unit after reset: stopped, `INT`, masked, nothing pending (R45). -/
def CountUnit.reset : CountUnit := ⟨0, false, .int, false, false⟩

/-- The bench's port before anything is asked of it (DESIGN CHOICE, notes/assumptions/8.md and
9.md): no request, and legal operands, 0 and the text of 0. -/
def Bench.idle : Bench := ⟨none, 0, [0x30]⟩

/-- The reset state of R45 in configuration `c`, with no trace and an idle bench. -/
def State.resetOf (c : Config) : State where
  cfg := c
  pa := .reset
  gt := .reset
  preCnt := 0
  ovfTally := 0
  gsRemain := c.gateBudget
  gsState := .counting
  dataReady := false
  freq := 0
  cState := .boot
  dispLog := []
  trace := []
  bench := .idle

/-- The machine right after reset, in the configuration DEFAULT. -/
def State.reset : State := State.resetOf Config.default

end Sys2Proof.Machine
end

