-- ==== Sys2Proof/Machine/Ops.lean ====
section
/-! DEFINITION. The operations every instruction is built from: unsigned arithmetic (00_scope.md
R15), one count of a unit (40_pulse_accumulator.md R100), taking an interrupt and returning from it
(60_exceptions.md R205, R208), sending to the display, running only in a valid configuration
(00_scope.md R9), and repeating a step (30_encoding.md R83). -/

namespace Sys2Proof.Machine

/-- The three outcomes of an instruction. -/
abbrev Result := Host.Outcome State Fault Refusal

/-! ### Arithmetic of R15 -/

/-- `a +_n b`: addition modulo `2^n`. -/
def addMod (n a b : Nat) : Nat := (a + b) % 2 ^ n

/-- `a -_n b`: subtraction modulo `2^n`, for `b` at most `2^n`. -/
def subMod (n a b : Nat) : Nat := (a + (2 ^ n - b)) % 2 ^ n

/-- The concatenation of `a` and `b` for `b` of width `n`: `a` in the high bits. -/
def concatBits (n a b : Nat) : Nat := a * 2 ^ n + b

/-! ### Counting units -/

/-- A counting unit by name. -/
def State.unit (s : State) : UnitId → CountUnit
  | .pa => s.pa
  | .gt => s.gt

/-- Write a counting unit by name. -/
def State.setUnit (s : State) : UnitId → CountUnit → State
  | .pa, u => s.setPa u
  | .gt, u => s.setGt u

/-- The width of a unit's count register: `W1` or `WG` (10_state.md R22, R24). -/
def State.unitWidth (s : State) : UnitId → Nat
  | .pa => s.cfg.w1
  | .gt => s.cfg.wg

/-- One count of a unit of width `w`: the wrap from `2^w - 1` to 0 sets `OVF`, whatever `OVIE`
holds, and nothing clears it here (R100). -/
def CountUnit.count (w : Nat) (u : CountUnit) : CountUnit :=
  if u.cnt = 2 ^ w - 1 then { u with cnt := 0, ovf := true } else { u with cnt := u.cnt + 1 }

/-- `count(U)` (R100). -/
def count (id : UnitId) (s : State) : State :=
  s.setUnit id ((s.unit id).count (s.unitWidth id))

/-- One event of a clock source at a unit: counted when the unit is enabled and selects the source
(R27, R28). -/
def clockUnit (src : ClockSource) (id : UnitId) (s : State) : State :=
  if (s.unit id).en = true ∧ (s.unit id).cs = src then count id s else s

/-- One event of a clock source: `for U in (PA, GT)` (R101, 42_gate_timer.md R120). -/
def clockUnits (src : ClockSource) (s : State) : State :=
  clockUnit src .gt (clockUnit src .pa s)

/-- The start of a unit: count cleared, source selected, counting and the overflow interrupt
enabled, the pending event cleared (R102, R122). -/
def CountUnit.started (src : ClockSource) : CountUnit := ⟨0, true, src, true, false⟩

/-- The stop of a unit: `EN` cleared and nothing else (R103, R123). -/
def CountUnit.stopped (u : CountUnit) : CountUnit := { u with en := false }

/-- `U.OVF <- 0`. -/
def CountUnit.acknowledged (u : CountUnit) : CountUnit := { u with ovf := false }

/-! ### Taking an interrupt and returning from it

The block has no exceptions (60_exceptions.md R200); its two interrupts are the service steps. -/

/-- Return from a handler: nothing is restored (R208). -/
def returnFromInterrupt (s : State) : State := s

/-- Taking the interrupt of a unit: clear its pending bit, then run the handler, in one atomic
step. Nothing is saved and no mode changes (R205). -/
def takeInterrupt (id : UnitId) (handler : State → State) (s : State) : State :=
  returnFromInterrupt (handler (s.setUnit id (s.unit id).acknowledged))

/-! ### Output -/

/-- `emit e`: append to `DISP_LOG` (00_scope.md R16, 10_state.md R39). -/
def emit (e : DispEvent) (s : State) : State := s.setDispLog (s.dispLog ++ [e])

/-! ### Outcomes -/

/-- Give a result only in a valid configuration (00_scope.md R9). -/
def configured (s : State) (r : Result) : Result :=
  if s.cfg.Valid then r else .refused .invalidConfig

/-- Give a result only where a condition holds; the machine is stuck with `f` elsewhere. -/
def whenEnabled (enabled : Bool) (f : Fault) (r : Result) : Result :=
  if enabled = true then r else .fault f

/-- A step taken `k` times in a row, stopping where it is not enabled (30_encoding.md R83). -/
def repeatStep : Nat → (State → Result) → State → Result
  | 0, _, s => .next s
  | k + 1, f, s =>
    match f s with
    | .next t => repeatStep k f t
    | .fault r => .fault r
    | .refused r => .refused r

/-- A format R item: `n = 0` is illegal (R83, R86; notes/assumptions/6.md). -/
def repeated (n : Count24) (f : State → Result) (s : State) : Result :=
  if n = 0 then .refused .zeroRepeat else repeatStep n.toNat f s

end Sys2Proof.Machine
end

