-- ==== Sys2Proof/Machine/Operands.lean ====
section
/-! DEFINITION. Operands and results: the state registers that select a behaviour (30_encoding.md
R85), the constants an operation takes (R124, R135, R164), the register identifiers of 10_state.md
R40 with their widths, and the bench's port for operations run alone. -/

namespace Sys2Proof.Machine

/-! ### State registers as bits -/

/-- `GS_STATE` in 2 bits (R34). -/
def GsState.bits : GsState → BitVec 2
  | .counting => 0
  | .lastInterval => 1
  | .complete => 2

/-- The state a 2-bit value names; 3 is reserved (R34, R86). -/
def GsState.ofBits (v : BitVec 2) : Option GsState :=
  match v.toNat with
  | 0 => some .counting
  | 1 => some .lastInterval
  | 2 => some .complete
  | _ => none

/-- `C_STATE` in 3 bits (R38). -/
def CState.bits : CState → BitVec 3
  | .boot => 0
  | .poll => 1
  | .latch => 2
  | .clear => 3
  | .write => 4
  | .restart => 5

/-- The state a 3-bit value names; 6 and 7 are reserved (R38, R86). -/
def CState.ofBits (v : BitVec 3) : Option CState :=
  match v.toNat with
  | 0 => some .boot
  | 1 => some .poll
  | 2 => some .latch
  | 3 => some .clear
  | 4 => some .write
  | 5 => some .restart
  | _ => none

/-- The encoding of `CS`: `0 = INT`, `1 = EXT` (R28). -/
def ClockSource.bit : ClockSource → Bool
  | .int => false
  | .ext => true

/-! ### Constants -/

/-- Operand of `GT_LOAD`: `GATE_PRELOAD` (R124). -/
def preloadOperand (s : State) : Nat := s.cfg.gatePreload

/-- Operand of `GS_RESET`: `GATE_BUDGET` (R135). -/
def budgetOperand (s : State) : Nat := s.cfg.gateBudget

/-- Operand of `DISP_CLEAR`: `DISPLAY_LINE` (R164). -/
def lineOperand (s : State) : Nat := s.cfg.displayLine

/-! ### The bench's port (notes/assumptions/9.md) -/

/-- Leave a numeric result at the bench's port. -/
def returnNum (n : Nat) (s : State) : State := s.setBench { s.bench with num := n }

/-- Leave a text result at the bench's port. -/
def returnText (t : List Byte) (s : State) : State := s.setBench { s.bench with text := t }

/-- Numeric operand of an operation run alone. -/
def numOperand (s : State) : Nat := s.bench.num

/-- Text operand of an operation run alone. -/
def textOperand (s : State) : List Byte := s.bench.text

/-! ### Registers by identifier (R40) -/

/-- The register identifiers 0 to 9 of R40, in order. -/
inductive RegId where
  | paCnt
  | paCtl
  | gtCnt
  | gtCtl
  | preCnt
  | ovfTally
  | gsRemain
  | flags
  | freq
  | cState
deriving DecidableEq, Repr

/-- The number of a register (R40). -/
def RegId.number : RegId → Nat
  | .paCnt => 0
  | .paCtl => 1
  | .gtCnt => 2
  | .gtCtl => 3
  | .preCnt => 4
  | .ovfTally => 5
  | .gsRemain => 6
  | .flags => 7
  | .freq => 8
  | .cState => 9

/-- The width of a register in bits (R40). -/
def RegId.width (c : Config) : RegId → Nat
  | .paCnt => c.w1
  | .paCtl => 4
  | .gtCnt => c.wg
  | .gtCtl => 4
  | .preCnt => c.wp
  | .ovfTally => c.w2
  | .gsRemain => c.wb
  | .flags => 3
  | .freq => c.wf
  | .cState => 3

end Sys2Proof.Machine
end

