-- ==== Sys2Proof/Machine/Flags.lean ====
section
/-! DEFINITION. Flags and what they enable: the packed views of the control bits (10_state.md R26,
R36), the enabling conditions of the service steps and of `MAIN` (60_exceptions.md R204, R206), and
reading a register by its identifier (R40), which has no side effect (20_memory.md R69). -/

namespace Sys2Proof.Machine

/-! ### Packed views -/

/-- `U.CTL`: bit 0 `EN`, bit 1 `CS`, bit 2 `OVIE`, bit 3 `OVF` (R26). -/
def CountUnit.ctl (u : CountUnit) : BitVec 4 :=
  BitVec.ofBool u.ovf ++ BitVec.ofBool u.ovie ++ BitVec.ofBool u.cs.bit ++ BitVec.ofBool u.en

/-- `FLAGS`: bit 0 `DATA_READY`, bits 2:1 `GS_STATE` (R36). -/
def State.flags (s : State) : BitVec 3 := s.gsState.bits ++ BitVec.ofBool s.dataReady

/-- The value a test bench reads from a register (00_scope.md R13, 10_state.md R40). -/
def State.readReg (s : State) : RegId → Nat
  | .paCnt => s.pa.cnt
  | .paCtl => s.pa.ctl.toNat
  | .gtCnt => s.gt.cnt
  | .gtCtl => s.gt.ctl.toNat
  | .preCnt => s.preCnt
  | .ovfTally => s.ovfTally
  | .gsRemain => s.gsRemain
  | .flags => s.flags.toNat
  | .freq => s.freq
  | .cState => s.cState.bits.toNat

/-! ### Enabling conditions -/

/-- A unit's overflow event may be serviced: `OVF = 1` and `OVIE = 1` (R204). -/
def CountUnit.serviceable (u : CountUnit) : Bool := u.ovf && u.ovie

/-- `enabled(SVC_PA)` (R204). -/
def svcPaEnabled (s : State) : Bool := s.pa.serviceable

/-- `enabled(SVC_GT)` (R204). -/
def svcGtEnabled (s : State) : Bool := s.gt.serviceable

/-- `enabled(MAIN)`: no event is serviceable (R206). -/
def mainEnabled (s : State) : Bool := !svcPaEnabled s && !svcGtEnabled s

/-- The `CLK` step of this state is a tick: `PRE_CNT = PRESCALE - 1` (42_gate_timer.md R121). -/
def atTick (s : State) : Bool := s.preCnt == s.cfg.prescale - 1

end Sys2Proof.Machine
end

