-- ==== Sys2Proof/Machine/GateTimer.lean ====
section
/-! DEFINITION. The Gate Timer and the prescaler: `CLK`, `GT_START`, `GT_STOP`, `GT_LOAD`
(42_gate_timer.md). -/

namespace Sys2Proof.Machine

/-- The prescaler's part of `CLK` (R120 sub-step 1): `PRE_CNT` counts modulo `PRESCALE`. -/
def advancePrescaler (s : State) : State :=
  s.setPreCnt (if atTick s = true then 0 else s.preCnt + 1)

/-- `CLK` (R120): the prescaler advances, and on a tick the units on the internal clock count. -/
def clkStep (s : State) : State :=
  if atTick s = true then clockUnits .int (advancePrescaler s) else advancePrescaler s

/-- `GT_START` (R122). -/
def gtStart (s : State) : State := (s.setGt (.started .int)).setPreCnt 0

/-- `GT_STOP` (R123). -/
def gtStop (s : State) : State := s.setGt s.gt.stopped

/-- `GT_LOAD` (R124): the preload into the Gate Timer's own count register, no event. -/
def gtLoad (s : State) : State := s.setGt { s.gt with cnt := preloadOperand s }

/-- `CLK`: always enabled (R120). -/
def execClk (s : State) : Result := configured s (.next (clkStep s))

/-- `CLK*n`: `CLK` taken `n` times in a row (30_encoding.md R83). -/
def execClkRep (n : Count24) (s : State) : Result := configured s (repeated n execClk s)

/-- `GT_START` run alone (R122). -/
def execGtStart (s : State) : Result := configured s (.next (gtStart s))

/-- `GT_STOP` run alone (R123). -/
def execGtStop (s : State) : Result := configured s (.next (gtStop s))

/-- `GT_LOAD` run alone (R124). -/
def execGtLoad (s : State) : Result := configured s (.next (gtLoad s))

end Sys2Proof.Machine
end

