-- ==== Sys2Proof/Machine/PulseAccumulator.lean ====
section
/-! DEFINITION. The Pulse Accumulator: `PULSE`, `PA_START`, `PA_STOP`, `PA_READ`
(40_pulse_accumulator.md). -/

namespace Sys2Proof.Machine

/-- `PULSE` (R101): one counted transition of the external input. -/
def pulseStep (s : State) : State := clockUnits .ext s

/-- `PA_START` (R102). -/
def paStart (s : State) : State := s.setPa (.started .ext)

/-- `PA_STOP` (R103). -/
def paStop (s : State) : State := s.setPa s.pa.stopped

/-- `PA_READ` (R104): the value returned; no state changes. -/
def paRead (s : State) : Nat := s.pa.cnt

/-- `PULSE`: always enabled (R101). -/
def execPulse (s : State) : Result := configured s (.next (pulseStep s))

/-- `PULSE*n`: `PULSE` taken `n` times in a row (30_encoding.md R83). -/
def execPulseRep (n : Count24) (s : State) : Result := configured s (repeated n execPulse s)

/-- `PA_START` run alone (R102). -/
def execPaStart (s : State) : Result := configured s (.next (paStart s))

/-- `PA_STOP` run alone (R103). -/
def execPaStop (s : State) : Result := configured s (.next (paStop s))

/-- `PA_READ` run alone: the result goes to the bench's port (R104, notes/assumptions/9.md). -/
def execPaRead (s : State) : Result := configured s (.next (returnNum (paRead s) s))

end Sys2Proof.Machine
end

