-- ==== Sys2Proof/Machine/GateSequencer.lean ====
section
/-! DEFINITION. The Gate Sequencer: `GS_RESET`, `GS_STEP` and its three behaviours, `SVC_GT`
(43_gate_sequencer.md). -/

namespace Sys2Proof.Machine

/-- `GS_RESET` (R135). -/
def gsReset (s : State) : State := (s.setGsState .counting).setGsRemain (budgetOperand s)

/-- `GS_STEP` in `COUNTING` (R137): the test is on the decremented value. -/
def gsStepCounting (s : State) : State :=
  let r := subMod s.cfg.wb s.gsRemain 1
  if r = 0 then (gtLoad (s.setGsRemain r)).setGsState .lastInterval else s.setGsRemain r

/-- `GS_STEP` in `LAST_INTERVAL` (R138): both units stop and the flag is set in one step. -/
def gsStepLastInterval (s : State) : State :=
  ((paStop (gtStop s)).setDataReady true).setGsState .complete

/-- `GS_STEP` in `COMPLETE` (R139): no effect. -/
def gsStepComplete (s : State) : State := s

/-- `GS_STEP` (R136): the behaviour `GS_STATE` selects. -/
def gsStep (s : State) : State :=
  match s.gsState with
  | .counting => gsStepCounting s
  | .lastInterval => gsStepLastInterval s
  | .complete => gsStepComplete s

/-- `SVC_GT` where it is enabled (R140): the interrupt whose handler is `GS_STEP`. -/
def svcGtStep (s : State) : State := takeInterrupt .gt gsStep s

/-- Run a behaviour of `GS_STEP` where `GS_STATE` selects it (30_encoding.md R85;
notes/assumptions/10.md). -/
def gsBehaviour (g : GsState) (f : State → State) (s : State) : Result :=
  configured s (whenEnabled (s.gsState == g) .behaviourNotSelected (.next (f s)))

/-- `GS_RESET` run alone (R135). -/
def execGsReset (s : State) : Result := configured s (.next (gsReset s))

/-- `GS_STEP` run alone (R136). -/
def execGsStep (s : State) : Result := configured s (.next (gsStep s))

/-- `GS_STEP.COUNTING` (R137). -/
def execGsStepCounting (s : State) : Result := gsBehaviour .counting gsStepCounting s

/-- `GS_STEP.LAST_INTERVAL` (R138). -/
def execGsStepLastInterval (s : State) : Result := gsBehaviour .lastInterval gsStepLastInterval s

/-- `GS_STEP.COMPLETE` (R139). -/
def execGsStepComplete (s : State) : Result := gsBehaviour .complete gsStepComplete s

/-- `SVC_GT`: enabled when `GT.OVF = 1` and `GT.OVIE = 1` (R140, 60_exceptions.md R204). -/
def execSvcGt (s : State) : Result :=
  configured s (whenEnabled (svcGtEnabled s) .svcGtNotEnabled (.next (svcGtStep s)))

end Sys2Proof.Machine
end

