-- ==== Sys2Proof/Machine/OverflowExtender.lean ====
section
/-! DEFINITION. The Overflow Extender: `OE_RESET`, `OE_INC`, `SVC_PA`
(41_overflow_extender.md). -/

namespace Sys2Proof.Machine

/-- `OE_RESET` (R110). -/
def oeReset (s : State) : State := s.setOvfTally 0

/-- `OE_INC` (R111): modulo `2^W2`, silent on the wrap. -/
def oeInc (s : State) : State := s.setOvfTally (addMod s.cfg.w2 s.ovfTally 1)

/-- `SVC_PA` where it is enabled (R112): the interrupt whose handler is `OE_INC`. -/
def svcPaStep (s : State) : State := takeInterrupt .pa oeInc s

/-- `OE_RESET` run alone (R110). -/
def execOeReset (s : State) : Result := configured s (.next (oeReset s))

/-- `OE_INC` run alone (R111). -/
def execOeInc (s : State) : Result := configured s (.next (oeInc s))

/-- `SVC_PA`: enabled when `PA.OVF = 1` and `PA.OVIE = 1` (R112, 60_exceptions.md R204). -/
def execSvcPa (s : State) : Result :=
  configured s (whenEnabled (svcPaEnabled s) .svcPaNotEnabled (.next (svcPaStep s)))

end Sys2Proof.Machine
end

