-- ==== Sys2Proof/Machine/Controller.lean ====
section
/-! DEFINITION. The Measurement Controller: `MAIN` and its six behaviours, `CYCLE_RESTART`,
`FREQ_COMBINE`, `DEC_FORMAT`, `DISP_CLEAR`, `DISP_WRITE` (44_measurement_controller.md). -/

namespace Sys2Proof.Machine

/-! ### Sub-operations -/

/-- `CYCLE_RESTART` (R160): five parts that write disjoint fields. -/
def cycleRestart (s : State) : State :=
  (gtStart (paStart (gsReset (oeReset s)))).setDataReady false

/-- `FREQ_COMBINE` (R161): the value returned, the tally in the high bits (20_memory.md R64). -/
def freqCombine (s : State) : Nat := concatBits s.cfg.w1 s.ovfTally (paRead s)

/-- The byte of a decimal digit: `0x30 + d` (30_encoding.md R91). -/
def digitByte (d : Nat) : Byte := BitVec.ofNat 8 (0x30 + d)

/-- The loop of `DEC_FORMAT` (R162): prepend digits, least significant first, until nothing is
left; `fuel` bounds the digits. -/
def decDigits : Nat → Nat → List Byte → List Byte
  | 0, _, acc => acc
  | fuel + 1, n, acc => if n = 0 then acc else decDigits fuel (n / 10) (digitByte (n % 10) :: acc)

/-- `DEC_FORMAT(n)` (R162): decimal text, most significant digit first, `n` digits are enough. -/
def decFormat (n : Nat) : List Byte := if n = 0 then [digitByte 0] else decDigits n n []

/-- `DISP_CLEAR` (R164). -/
def dispClear (s : State) : State := emit (.clear (lineOperand s)) s

/-- `DISP_WRITE(t)` (R165). -/
def dispWrite (t : List Byte) (s : State) : State := emit (.write t) s

/-! ### Behaviours of `MAIN` -/

/-- `MAIN` in `C_BOOT` (R151). -/
def mainBoot (s : State) : State := s.setCState .restart

/-- `MAIN` in `C_POLL` (R152): the flag is read and not cleared. -/
def mainPoll (s : State) : State := if s.dataReady = true then s.setCState .latch else s

/-- `MAIN` in `C_LATCH` (R153). -/
def mainLatch (s : State) : State := ((s.setDataReady false).setFreq (freqCombine s)).setCState .clear

/-- `MAIN` in `C_CLEAR` (R154). -/
def mainClear (s : State) : State := (dispClear s).setCState .write

/-- `MAIN` in `C_WRITE` (R155). -/
def mainWrite (s : State) : State := (dispWrite (decFormat s.freq) s).setCState .restart

/-- `MAIN` in `C_RESTART` (R156). -/
def mainRestart (s : State) : State := (cycleRestart s).setCState .poll

/-- `MAIN` where it is enabled (R150): the behaviour `C_STATE` selects. -/
def mainStep (s : State) : State :=
  match s.cState with
  | .boot => mainBoot s
  | .poll => mainPoll s
  | .latch => mainLatch s
  | .clear => mainClear s
  | .write => mainWrite s
  | .restart => mainRestart s

/-- A step of the main loop: only while no event is serviceable (R150, 60_exceptions.md R206). -/
def mainLoop (f : State → State) (s : State) : Result :=
  whenEnabled (mainEnabled s) .mainNotEnabled (.next (f s))

/-- Run a behaviour of `MAIN` where `C_STATE` selects it (30_encoding.md R85;
notes/assumptions/10.md). -/
def mainBehaviour (c : CState) (f : State → State) (s : State) : Result :=
  configured s (whenEnabled (s.cState == c) .behaviourNotSelected (mainLoop f s))

/-! ### Meanings -/

/-- `MAIN` (R150). -/
def execMain (s : State) : Result := configured s (mainLoop mainStep s)

/-- `MAIN*n`: `MAIN` taken `n` times in a row, each enabled when it is taken (30_encoding.md R83). -/
def execMainRep (n : Count24) (s : State) : Result := configured s (repeated n execMain s)

/-- `MAIN.C_BOOT` (R151). -/
def execMainBoot (s : State) : Result := mainBehaviour .boot mainBoot s

/-- `MAIN.C_POLL` (R152). -/
def execMainPoll (s : State) : Result := mainBehaviour .poll mainPoll s

/-- `MAIN.C_LATCH` (R153). -/
def execMainLatch (s : State) : Result := mainBehaviour .latch mainLatch s

/-- `MAIN.C_CLEAR` (R154). -/
def execMainClear (s : State) : Result := mainBehaviour .clear mainClear s

/-- `MAIN.C_WRITE` (R155). -/
def execMainWrite (s : State) : Result := mainBehaviour .write mainWrite s

/-- `MAIN.C_RESTART` (R156). -/
def execMainRestart (s : State) : Result := mainBehaviour .restart mainRestart s

/-- `CYCLE_RESTART` run alone (R160). -/
def execCycleRestart (s : State) : Result := configured s (.next (cycleRestart s))

/-- `FREQ_COMBINE` run alone: the result goes to the bench's port (R161, notes/assumptions/9.md). -/
def execFreqCombine (s : State) : Result := configured s (.next (returnNum (freqCombine s) s))

/-- `DEC_FORMAT` run alone: operand and result at the bench's port (R162, notes/assumptions/9.md). -/
def execDecFormat (s : State) : Result :=
  configured s (.next (returnText (decFormat (numOperand s)) s))

/-- `DISP_CLEAR` run alone (R164). -/
def execDispClear (s : State) : Result := configured s (.next (dispClear s))

/-- `DISP_WRITE` run alone: operand at the bench's port (R165, notes/assumptions/9.md). -/
def execDispWrite (s : State) : Result := configured s (.next (dispWrite (textOperand s) s))

end Sys2Proof.Machine
end

