-- ==== Sys2Proof/Machine/Reset.lean ====
section
/-! DEFINITION. `RESET` (70_reset_and_hazards.md R230). -/

namespace Sys2Proof.Machine

/-- `RESET` (R230): every field of the spec's state takes its reset value. The configuration, the
rest of the trace and the bench's port are not the block's state and stay. -/
def resetStep (s : State) : State := ((State.resetOf s.cfg).setTrace s.trace).setBench s.bench

/-- `RESET`: always enabled (R230). -/
def execReset (s : State) : Result := configured s (.next (resetStep s))

end Sys2Proof.Machine
end

