-- ==== Sys2Proof/Machine/Dispatch.lean ====
section
/-! DEFINITION. One arm per instruction. -/

namespace Sys2Proof.Machine

def exec (i : Instr) (s : State) : Host.Outcome State Fault Refusal :=
  match i with
  | .clk => Sys2Proof.Machine.execClk s
  | .pulse => Sys2Proof.Machine.execPulse s
  | .svcPa => Sys2Proof.Machine.execSvcPa s
  | .svcGt => Sys2Proof.Machine.execSvcGt s
  | .main => Sys2Proof.Machine.execMain s
  | .reset => Sys2Proof.Machine.execReset s
  | .clkRep n => Sys2Proof.Machine.execClkRep n s
  | .pulseRep n => Sys2Proof.Machine.execPulseRep n s
  | .mainRep n => Sys2Proof.Machine.execMainRep n s
  | .paStart => Sys2Proof.Machine.execPaStart s
  | .paStop => Sys2Proof.Machine.execPaStop s
  | .paRead => Sys2Proof.Machine.execPaRead s
  | .oeReset => Sys2Proof.Machine.execOeReset s
  | .oeInc => Sys2Proof.Machine.execOeInc s
  | .gtStart => Sys2Proof.Machine.execGtStart s
  | .gtStop => Sys2Proof.Machine.execGtStop s
  | .gtLoad => Sys2Proof.Machine.execGtLoad s
  | .gsReset => Sys2Proof.Machine.execGsReset s
  | .gsStep => Sys2Proof.Machine.execGsStep s
  | .cycleRestart => Sys2Proof.Machine.execCycleRestart s
  | .freqCombine => Sys2Proof.Machine.execFreqCombine s
  | .decFormat => Sys2Proof.Machine.execDecFormat s
  | .dispClear => Sys2Proof.Machine.execDispClear s
  | .dispWrite => Sys2Proof.Machine.execDispWrite s
  | .gsStepCounting => Sys2Proof.Machine.execGsStepCounting s
  | .gsStepLastInterval => Sys2Proof.Machine.execGsStepLastInterval s
  | .gsStepComplete => Sys2Proof.Machine.execGsStepComplete s
  | .mainBoot => Sys2Proof.Machine.execMainBoot s
  | .mainPoll => Sys2Proof.Machine.execMainPoll s
  | .mainLatch => Sys2Proof.Machine.execMainLatch s
  | .mainClear => Sys2Proof.Machine.execMainClear s
  | .mainWrite => Sys2Proof.Machine.execMainWrite s
  | .mainRestart => Sys2Proof.Machine.execMainRestart s

end Sys2Proof.Machine
end

