-- ==== Sys2Proof/Machine/Fetch.lean ====
section
/-! DEFINITION. Where the next instruction comes from: a request of the test bench if there is one,
else the next item of the stimulus trace (30_encoding.md R80 to R87; notes/assumptions/4.md, 5.md
and 8.md); and how a table word is put there. -/

namespace Sys2Proof.Machine

/-- The next item of the trace and the state with it taken off. A trace with an ill-formed item
anywhere is refused whole, before any item of it runs (R86, U8). -/
def fetchItem (s : State) : Host.Outcome (Instr × State) Fault Refusal :=
  match traceError s.trace with
  | some (at_, why) => .refused (.illFormedTrace at_ why)
  | none =>
    match decodeItem s.trace with
    | .ok (i, rest) => .next (i, s.setTrace rest)
    | .error _ => .fault .traceEnded

/-- A request of the bench, cleared as it is taken. -/
def fetchRequest (c : Code) (s : State) : Host.Outcome (Instr × State) Fault Refusal :=
  match decode c with
  | .ok i => .next (i, s.setBench { s.bench with request := none })
  | .error why => .refused (.reservedCode why)

/-- The next instruction and the state it runs in. -/
def fetch (s : State) : Host.Outcome (Instr × State) Fault Refusal :=
  match s.bench.request with
  | some c => fetchRequest c s
  | none => fetchItem s

/-- Put a code where `fetch` finds it: an item becomes the trace, any other code a request of the
bench. A behaviour row's code is the value of the state register that selects it, so the register
takes that value (R85; notes/assumptions/21.md). -/
def loadCode (c : Code) (s : State) : State :=
  match c with
  | .item bytes => (s.setTrace bytes).setBench { s.bench with request := none }
  | .sub code => s.setBench { s.bench with request := some (.sub code) }
  | .gsSel value =>
    (s.setGsState ((GsState.ofBits value).getD s.gsState)).setBench
      { s.bench with request := some (.gsSel value) }
  | .cSel value =>
    (s.setCState ((CState.ofBits value).getD s.cState)).setBench
      { s.bench with request := some (.cSel value) }

end Sys2Proof.Machine
end

