-- ==== Sys2Proof/Machine/Step.lean ====
section
/-! DEFINITION. One step of the machine: fetch the next instruction and run it. -/

namespace Sys2Proof.Machine

/-- One step: the next instruction, in the state left by fetching it. -/
def step (s : State) : Host.Outcome State Fault Refusal :=
  match fetch s with
  | .next (i, t) => exec i t
  | .fault f => .fault f
  | .refused r => .refused r

/-- `s` with the instruction of a table word placed where `step` fetches next. -/
def State.withFetchWord (s : State) (nbits w : Nat) : State := loadCode (codeOfTableWord nbits w) s

end Sys2Proof.Machine
end

