-- ==== Sys2Proof/Machine/Schedule.lean ====
section
/-! DEFINITION. Executions as sequences of steps (00_scope.md R17) and the eager schedule
(60_exceptions.md R209). -/

namespace Sys2Proof.Machine

/-- The spec's step function (R17), read off `exec`: `none` when the step is not enabled. -/
def take (st : TraceStep) (s : State) : Option State :=
  match exec st.instr s with
  | .next t => some t
  | .fault _ => none
  | .refused _ => none

/-- A sequence of steps, each enabled in the state it is taken from (R17). -/
def runSteps : List TraceStep → State → Option State
  | [], s => some s
  | st :: rest, s =>
    match take st s with
    | none => none
    | some t => runSteps rest t

/-! ### The eager schedule -/

/-- One round of the first loop of R209: `SVC_PA` first, then `SVC_GT`, each if enabled. -/
def serviceRound (s : State) : State :=
  let t := if svcPaEnabled s = true then svcPaStep s else s
  if svcGtEnabled t = true then svcGtStep t else t

/-- The first loop of R209. Each round clears every pending bit it finds, so one round is enough
(notes/assumptions/23.md). -/
def serviceLoop : Nat → State → State
  | 0, s => s
  | fuel + 1, s =>
    if svcPaEnabled s = true ∨ svcGtEnabled s = true then serviceLoop fuel (serviceRound s) else s

/-- The second loop of R209: `MAIN` until the controller polls with the flag clear. -/
def controllerLoop : Nat → State → State
  | 0, s => s
  | fuel + 1, s =>
    if s.cState ≠ .poll ∨ s.dataReady = true then controllerLoop fuel (mainStep s) else s

/-- An environment step of R209. -/
inductive EnvStep where
  | clk
  | pulse
  | reset
deriving DecidableEq, Repr

/-- The trace step of an environment step. -/
def EnvStep.toStep : EnvStep → TraceStep
  | .clk => .clk
  | .pulse => .pulse
  | .reset => .reset

/-- The effect of an environment step. -/
def envEffect : EnvStep → State → State
  | .clk, s => clkStep s
  | .pulse, s => pulseStep s
  | .reset, s => resetStep s

/-- Everything the eager schedule inserts after an environment step. The second loop ends "after at
most six `MAIN` steps" (R209). -/
def settle (s : State) : State := controllerLoop 6 (serviceLoop 2 s)

/-- One round of the eager schedule (R209). -/
def eagerStep (e : EnvStep) (s : State) : State := settle (envEffect e s)

/-- The eager schedule of a sequence of environment steps (R209). -/
def eager : List EnvStep → State → State
  | [], s => s
  | e :: es, s => eager es (eagerStep e s)

end Sys2Proof.Machine
end

