-- ==== Sys2Proof/Machine/Text.lean ====
section
/-! DEFINITION. The text form of traces: an assembler for the syntax of 30_encoding.md R88 with the
pseudo-items of R89. Text is a list of characters (notes/assumptions/22.md). -/

namespace Sys2Proof.Machine

/-- Why a text is no trace (R88, R89). -/
inductive TextError where
  /-- An item that is no step name and no pseudo-item. -/
  | unknownItem (item : List Char)
  /-- A count that is no decimal number. -/
  | badCount (item : List Char)
  /-- A count outside 1 to 16777215, a pseudo-item's expanded count among them. -/
  | countOutOfRange (n : Nat)
  /-- A count on an item that takes none. -/
  | notRepeatable (item : List Char)
deriving DecidableEq, Repr

/-- A line end. -/
def isLineEnd (c : Char) : Bool := c == '\n' || c == '\r'

/-- A separator of items: a blank or a line end. -/
def isSeparator (c : Char) : Bool := c == ' ' || c == '\t' || isLineEnd c

/-- Drop comments: from `;` to the end of the line. The flag says a comment is open. -/
def stripComments : Bool → List Char → List Char
  | _, [] => []
  | true, c :: cs => if isLineEnd c = true then c :: stripComments false cs else stripComments true cs
  | false, c :: cs => if c == ';' then stripComments true cs else c :: stripComments false cs

/-- Cut at separators; `cur` holds the characters of the item being read, last first. -/
def splitItems : List Char → List Char → List (List Char)
  | cur, [] => if cur.isEmpty then [] else [cur.reverse]
  | cur, c :: cs =>
    if isSeparator c = true then
      if cur.isEmpty then splitItems [] cs else cur.reverse :: splitItems [] cs
    else splitItems (c :: cur) cs

/-- The part before the first `*` and the part after it, if there is one. -/
def splitStar : List Char → List Char × Option (List Char)
  | [] => ([], none)
  | c :: cs =>
    if c == '*' then ([], some cs)
    else
      match splitStar cs with
      | (name, count) => (c :: name, count)

/-- The value of a decimal digit. -/
def digitValue (c : Char) : Option Nat :=
  if '0'.toNat ≤ c.toNat ∧ c.toNat ≤ '9'.toNat then some (c.toNat - '0'.toNat) else none

/-- A decimal number from its digits, most significant first. -/
def decimalFrom : Nat → List Char → Option Nat
  | acc, [] => some acc
  | acc, c :: cs =>
    match digitValue c with
    | none => none
    | some d => decimalFrom (10 * acc + d) cs

/-- A decimal number of at least one digit. -/
def decimal (cs : List Char) : Option Nat := if cs.isEmpty then none else decimalFrom 0 cs

/-- The largest count of format R (R88). -/
def maxCount : Nat := 16777215

/-- A step name (R88). -/
def stepNamed (name : List Char) : Option TraceStep :=
  if name = ['C', 'L', 'K'] then some .clk
  else if name = ['P', 'U', 'L', 'S', 'E'] then some .pulse
  else if name = ['S', 'V', 'C', '_', 'P', 'A'] then some .svcPa
  else if name = ['S', 'V', 'C', '_', 'G', 'T'] then some .svcGt
  else if name = ['M', 'A', 'I', 'N'] then some .main
  else if name = ['R', 'E', 'S', 'E', 'T'] then some .reset
  else none

/-- Format R of a step with a count in range. -/
def repeatOf (name : List Char) (st : TraceStep) (n : Nat) : Except TextError (List Instr) :=
  match repeatInstr st (BitVec.ofNat 24 n) with
  | none => .error (.notRepeatable name)
  | some i => if 1 ≤ n ∧ n ≤ maxCount then .ok [i] else .error (.countOutOfRange n)

/-- An item without a count: a step in format S, or a pseudo-item (R88, R89). -/
def plainItem (c : Config) (name : List Char) : Except TextError (List Instr) :=
  match stepNamed name with
  | some st => .ok [st.instr]
  | none =>
    if name = ['B', 'O', 'O', 'T'] then .ok [.reset, .main, .main]
    else if name = ['T', 'I', 'C', 'K'] then repeatOf name .clk c.prescale
    else if name = ['R', 'E', 'P', 'O', 'R', 'T'] then .ok [.mainRep 5]
    else .error (.unknownItem name)

/-- An item with a count: a repeated step, or `TICK*k` (R88, R89). -/
def countedItem (c : Config) (name : List Char) (n : Nat) : Except TextError (List Instr) :=
  match stepNamed name with
  | some st => repeatOf name st n
  | none =>
    if name = ['T', 'I', 'C', 'K'] then repeatOf name .clk (n * c.prescale)
    else if name = ['B', 'O', 'O', 'T'] ∨ name = ['R', 'E', 'P', 'O', 'R', 'T'] then
      .error (.notRepeatable name)
    else .error (.unknownItem name)

/-- One item of a text. -/
def assembleItem (c : Config) (item : List Char) : Except TextError (List Instr) :=
  match splitStar item with
  | (name, none) => plainItem c name
  | (name, some digits) =>
    match decimal digits with
    | none => .error (.badCount item)
    | some n => countedItem c name n

/-- The items of a text, one after another. -/
def assembleItems (c : Config) : List (List Char) → Except TextError (List Instr)
  | [] => .ok []
  | item :: items =>
    match assembleItem c item with
    | .error e => .error e
    | .ok is =>
      match assembleItems c items with
      | .error e => .error e
      | .ok rest => .ok (is ++ rest)

/-- The instructions of a trace written as text (R88, R89). -/
def parseText (c : Config) (text : List Char) : Except TextError (List Instr) :=
  assembleItems c (splitItems [] (stripComments false text))

/-- The bytes of a trace written as text (R88, R89). -/
def assemble (c : Config) (text : List Char) : Except TextError (List Byte) :=
  match parseText c text with
  | .error e => .error e
  | .ok is => .ok (encodeTrace is)

end Sys2Proof.Machine
end

