-- ==== Sys2Proof/Safety.lean ====
section
/-! DEFINITION. The terms claims are written in: registers in range, the invariants of 10_state.md
R46, and predicates on executions (60_exceptions.md R210 to R212). -/

namespace Sys2Proof.Machine

/-! ### Registers in range -/

/-- An operand of `DISP_WRITE` (44_measurement_controller.md R165): 1 to `MAX_DIGITS` bytes, each
in `0x30..0x39`. -/
def legalText (c : Config) (t : List Byte) : Prop :=
  1 ≤ t.length ∧ t.length ≤ c.maxDigits ∧ ∀ b ∈ t, 0x30 ≤ b.toNat ∧ b.toNat ≤ 0x39

/-- A display operation with legal operands (R164, R165). -/
def legalEvent (c : Config) : DispEvent → Prop
  | .clear line => line = c.displayLine
  | .write t => legalText c t

/-- Every register holds a value of its width (10_state.md R22 to R37), the log and the bench's
port hold legal operands. -/
structure State.InRange (s : State) : Prop where
  paCnt : s.pa.cnt < 2 ^ s.cfg.w1
  gtCnt : s.gt.cnt < 2 ^ s.cfg.wg
  preCnt : s.preCnt ≤ s.cfg.prescale - 1
  ovfTally : s.ovfTally < 2 ^ s.cfg.w2
  gsRemain : s.gsRemain < 2 ^ s.cfg.wb
  freq : s.freq < 2 ^ s.cfg.wf
  dispLog : ∀ e ∈ s.dispLog, legalEvent s.cfg e
  benchNum : s.bench.num < 2 ^ s.cfg.wf
  benchText : legalText s.cfg s.bench.text

/-! ### Invariants of executions -/

/-- The invariants (b) to (h) of 10_state.md R46; (a) is `InRange.preCnt`. -/
structure State.R46 (s : State) : Prop where
  gsLegal : s.gsState.bits.toNat ≤ 2
  cLegal : s.cState.bits.toNat ≤ 5
  paSource : s.pa.en = true → s.pa.cs = .ext
  gtSource : s.gt.en = true → s.gt.cs = .int
  lockstep : s.pa.en = s.gt.en
  ready : s.dataReady = true →
    s.gsState = .complete ∧ s.pa.en = false ∧ s.gt.en = false ∧ (s.cState = .poll ∨ s.cState = .latch)
  stopped : s.gsState = .complete → s.pa.en = false ∧ s.gt.en = false
  remaining : s.gsState = .counting → 1 ≤ s.gsRemain ∧ s.gsRemain ≤ s.cfg.gateBudget
  spent : s.gsState = .lastInterval → s.gsRemain = 0

/-- Read a log for its shape: clear-line and write-string alternate, clear-line first. The flag
says a clear-line awaits its write-string; `none` if the log has another shape (R166). -/
def logShape : Bool → List DispEvent → Option Bool
  | awaiting, [] => some awaiting
  | false, .clear _ :: rest => logShape true rest
  | true, .write _ :: rest => logShape false rest
  | false, .write _ :: _ => none
  | true, .clear _ :: _ => none

/-- What else every execution keeps, DEDUCED from the rules so that R46 is inductive: units run
only while the controller polls, a Gate Timer event is pending only while it runs, running units
have their interrupts enabled, a poll waits for something, and the log holds whole reports but for
a clear-line already sent in `C_WRITE`. -/
structure State.Scheduled (s : State) : Prop where
  runsInPoll : s.pa.en = true → s.cState = .poll
  eventRuns : s.gt.ovf = true → s.gt.en = true
  paListens : s.pa.en = true → s.pa.ovie = true
  gtListens : s.gt.en = true → s.gt.ovie = true
  lastRuns : s.gsState = .lastInterval → s.pa.en = true
  pollWaits : s.cState = .poll → s.pa.en = true ∨ s.dataReady = true
  logged : logShape false s.dispLog = some (s.cState == .write)

/-- The invariant of every execution from reset: a valid configuration, nothing asked for by the
bench, registers in range, R46 and its strengthening. -/
structure State.Inv (s : State) : Prop where
  valid : s.cfg.Valid
  noRequest : s.bench.request = none
  inRange : s.InRange
  r46 : s.R46
  scheduled : s.Scheduled

/-! ### What a step is expected to leave -/

/-- A unit after one count (40_pulse_accumulator.md R100), written as the wrap's two effects. -/
def CountUnit.afterCount (w : Nat) (u : CountUnit) : CountUnit :=
  { u with cnt := if u.cnt = 2 ^ w - 1 then 0 else u.cnt + 1, ovf := u.ovf || u.cnt == 2 ^ w - 1 }

/-- A unit after one event of a source: counted where enabled and selected (R101, R120). -/
def CountUnit.afterEvent (src : ClockSource) (w : Nat) (u : CountUnit) : CountUnit :=
  if u.en = true ∧ u.cs = src then u.afterCount w else u

/-- A unit after `k` events of a source, in closed form. -/
def CountUnit.afterEvents (src : ClockSource) (w k : Nat) (u : CountUnit) : CountUnit :=
  if u.en = true ∧ u.cs = src then
    { u with cnt := (u.cnt + k) % 2 ^ w, ovf := u.ovf || decide (2 ^ w ≤ u.cnt + k) }
  else u

/-- The fields `CYCLE_RESTART` writes, at the values it gives them (R160), and the controller
polling: the start of a gate, whatever the other fields hold. -/
structure CycleStart (s : State) : Prop where
  pa : s.pa = ⟨0, true, .ext, true, false⟩
  gt : s.gt = ⟨0, true, .int, true, false⟩
  preCnt : s.preCnt = 0
  ovfTally : s.ovfTally = 0
  gsState : s.gsState = .counting
  gsRemain : s.gsRemain = s.cfg.gateBudget
  dataReady : s.dataReady = false
  cState : s.cState = .poll

/-- An identification code that names an instruction and may not stand in a trace (R84). -/
def identifies (code : Byte) (i : Instr) : Prop :=
  encode i = .sub code ∧ decode (.sub code) = .ok i ∧
    ∀ rest, ∃ why, decodeItem (code :: rest) = .error why

/-- A step code: its byte alone is the step's item (R82). -/
def itemCode (code : Byte) (i : Instr) : Prop :=
  encode i = .item [code] ∧ ∀ rest, decodeItem (code :: rest) = .ok (i, rest)

/-! ### Predicates on executions -/

/-- The step takes the unit's count from its maximum to 0 (R100, R101, R120). -/
def wraps (id : UnitId) (st : TraceStep) (s : State) : Bool :=
  (s.unit id).en && (s.unit id).cnt == 2 ^ s.unitWidth id - 1 &&
    match st with
    | .clk => atTick s && (s.unit id).cs == .int
    | .pulse => (s.unit id).cs == .ext
    | .svcPa | .svcGt | .main | .reset => false

/-- `NoLostOverflow` for one unit (R211): no count wraps it while its `OVF` is already 1. -/
def noLostOverflow (id : UnitId) : List TraceStep → State → Bool
  | [], _ => true
  | st :: rest, s =>
    !(wraps id st s && (s.unit id).ovf) &&
      match take st s with
      | none => true
      | some t => noLostOverflow id rest t

/-- No `RESET` and no restart of the cycle: the steps stay in the cycle they begin in. -/
def withinCycle : List TraceStep → State → Bool
  | [], _ => true
  | st :: rest, s =>
    st != .reset && !(st == .main && s.cState == .restart) &&
      match take st s with
      | none => true
      | some t => withinCycle rest t

/-- Number of `PULSE` steps taken while `PA.EN = 1` (R113). -/
def pulsesCounted : List TraceStep → State → Nat
  | [], _ => 0
  | st :: rest, s =>
    (if st = .pulse ∧ s.pa.en = true then 1 else 0) +
      match take st s with
      | none => 0
      | some t => pulsesCounted rest t

/-- Number of `CLK` steps taken while `GT.EN = 1` (43_gate_sequencer.md R142). -/
def clksGated : List TraceStep → State → Nat
  | [], _ => 0
  | st :: rest, s =>
    (if st = .clk ∧ s.gt.en = true then 1 else 0) +
      match take st s with
      | none => 0
      | some t => clksGated rest t

/-- What `ExactGate` looks back at: ticks, and `CLK` and `PULSE` steps, since the overflow that set
the Gate Timer's pending bit (R212; notes/assumptions/27.md). -/
structure Lateness where
  ticks : Nat
  events : Nat
deriving DecidableEq, Repr

/-- `Lateness` after a step. -/
def Lateness.after (st : TraceStep) (s : State) (l : Lateness) : Lateness :=
  if (wraps .gt st s && !s.gt.ovf) = true then ⟨0, 0⟩
  else
    match st with
    | .clk => ⟨if atTick s = true then l.ticks + 1 else l.ticks, l.events + 1⟩
    | .pulse => ⟨l.ticks, l.events + 1⟩
    | .svcPa | .svcGt | .main | .reset => l

/-- The two conditions of R212 at one step: (i) the `SVC_GT` that performs `GT_LOAD` comes before
the next tick; (ii) the `SVC_GT` that stops the units comes before any `CLK` or `PULSE`. -/
def punctual (st : TraceStep) (s : State) (l : Lateness) : Bool :=
  match st with
  | .svcGt =>
    match s.gsState with
    | .counting => subMod s.cfg.wb s.gsRemain 1 != 0 || l.ticks == 0
    | .lastInterval => l.events == 0
    | .complete => true
  | .clk | .pulse | .svcPa | .main | .reset => true

/-- `punctual` at every step. -/
def punctualFrom (l : Lateness) : List TraceStep → State → Bool
  | [], _ => true
  | st :: rest, s =>
    punctual st s l &&
      match take st s with
      | none => true
      | some t => punctualFrom (l.after st s) rest t

/-- `ExactGate` (R212), stronger than `NoLostOverflow` for the Gate Timer. DESIGN CHOICE: where the
steps begin with `GT.OVF` already 1, its overflow is not among them, and lateness is counted from
the start of the steps, from 0 ticks and 0 events (notes/assumptions/27.md). -/
def exactGate (steps : List TraceStep) (s : State) : Bool :=
  noLostOverflow .gt steps s && punctualFrom ⟨0, 0⟩ steps s

/-- The counts of a gate can be reported exactly: fewer than `2^WF` pulses (R105, R234). -/
def withinRange (c : Config) (pulses : Nat) : Bool := decide (pulses < 2 ^ c.wf)

/-- An infinite execution: state `σ n` and step `st n` lead to `σ (n + 1)`. -/
def InfiniteRun (σ : Nat → State) (st : Nat → TraceStep) : Prop :=
  ∀ n, take (st n) (σ n) = some (σ (n + 1))

/-- Fairness (R210): `CLK` keeps occurring, and a `SVC_PA`, `SVC_GT` or `MAIN` step that stays
enabled is eventually taken (notes/assumptions/24.md). -/
structure Fair (σ : Nat → State) (st : Nat → TraceStep) : Prop where
  clkRecurs : ∀ n, ∃ m, n ≤ m ∧ st m = .clk
  svcPaTaken : ∀ n, (∀ m, n ≤ m → svcPaEnabled (σ m) = true) → ∃ m, n ≤ m ∧ st m = .svcPa
  svcGtTaken : ∀ n, (∀ m, n ≤ m → svcGtEnabled (σ m) = true) → ∃ m, n ≤ m ∧ st m = .svcGt
  mainTaken : ∀ n, (∀ m, n ≤ m → mainEnabled (σ m) = true) → ∃ m, n ≤ m ∧ st m = .main

end Sys2Proof.Machine
end

