-- ==== Sys2Proof/Certificates/Slice0/Obligations.lean ====
section
/-! DEFINITION. The statements about the model. Each docstring names the rule of spec/ it says, or
the log entry of notes/assumptions where it says a choice of the model. `s.cfg.Valid` is the valid
configuration of 00_scope.md R9, without which nothing has a meaning. -/

open Sys2Proof Sys2Proof.Machine

/-! ## Encoding -/

/-- Codes written out from the tables of 30_encoding.md R81 to R85 and the vectors V90 to V102 of
95_test_vectors.md decode to the instruction they stand for. -/
def Obligations.SampleCodesDecode : Prop :=
  decode (.item [0b00000000]) = .ok .clk ∧
  decode (.item [0b00000001]) = .ok .pulse ∧
  decode (.item [0b00000010]) = .ok .svcPa ∧
  decode (.item [0b00000011]) = .ok .svcGt ∧
  decode (.item [0b00000100]) = .ok .main ∧
  decode (.item [0b00001111]) = .ok .reset ∧
  decode (.item [0b10000000, 0x00, 0x04, 0x00]) = .ok (.clkRep 1024) ∧
  decode (.item [0b10000001, 0x70, 0x11, 0x01]) = .ok (.pulseRep 70000) ∧
  decode (.item [0b10000100, 0x05, 0x00, 0x00]) = .ok (.mainRep 5) ∧
  decode (.sub 0b00010000) = .ok .paStart ∧
  decode (.sub 0b00010100) = .ok .oeInc ∧
  decode (.sub 0b00010111) = .ok .gtLoad ∧
  decode (.sub 0b00011010) = .ok .cycleRestart ∧
  decode (.gsSel 0b01) = .ok .gsStepLastInterval ∧
  decode (.cSel 0b100) = .ok .mainWrite

/-- R82: the byte of each step in format S, the first byte of each repeat form, and which steps may
be repeated. -/
def Obligations.StepCodesOfTheTable : Prop :=
  itemCode 0x00 .clk ∧ itemCode 0x01 .pulse ∧ itemCode 0x02 .svcPa ∧ itemCode 0x03 .svcGt ∧
  itemCode 0x04 .main ∧ itemCode 0x0F .reset ∧
  (∀ n, (encode (.clkRep n)).traceBytes.head? = some 0x80 ∧
    (encode (.pulseRep n)).traceBytes.head? = some 0x81 ∧
    (encode (.mainRep n)).traceBytes.head? = some 0x84) ∧
  (∀ st n, (repeatInstr st n).isSome = true ↔ st = .clk ∨ st = .pulse ∨ st = .main)

/-- R84: the identification codes of the fifteen sub-operations, none legal in a trace. -/
def Obligations.SubOperationCodes : Prop :=
  identifies 0x10 .paStart ∧ identifies 0x11 .paStop ∧ identifies 0x12 .paRead ∧
  identifies 0x13 .oeReset ∧ identifies 0x14 .oeInc ∧ identifies 0x15 .gtStart ∧
  identifies 0x16 .gtStop ∧ identifies 0x17 .gtLoad ∧ identifies 0x18 .gsReset ∧
  identifies 0x19 .gsStep ∧ identifies 0x1A .cycleRestart ∧ identifies 0x1B .freqCombine ∧
  identifies 0x1C .decFormat ∧ identifies 0x1D .dispClear ∧ identifies 0x1E .dispWrite

/-- R85: `SVC_GT` runs `GS_STEP`, whose behaviour the value of `GS_STATE` selects, and the value of
`C_STATE` selects the behaviour of `MAIN`. The rows run alone are the model's form of the selected
behaviour (notes/assumptions/10.md). -/
def Obligations.StateRegistersSelectBehaviours : Prop :=
  (∀ s, svcGtEnabled s = true →
    exec .svcGt s = exec .gsStep { s with gt := { s.gt with ovf := false } }) ∧
  (∀ s, ∃ i, decode (.gsSel s.gsState.bits) = .ok i ∧ exec .gsStep s = exec i s) ∧
  (∀ s, ∃ i, decode (.cSel s.cState.bits) = .ok i ∧ exec .main s = exec i s) ∧
  encode .gsStepCounting = .gsSel 0 ∧ encode .gsStepLastInterval = .gsSel 1 ∧
  encode .gsStepComplete = .gsSel 2 ∧ encode .mainBoot = .cSel 0 ∧ encode .mainPoll = .cSel 1 ∧
  encode .mainLatch = .cSel 2 ∧ encode .mainClear = .cSel 3 ∧ encode .mainWrite = .cSel 4 ∧
  encode .mainRestart = .cSel 5

/-- R86: exactly the listed items are illegal, a trace is refused whole at the offset of its first
illegal item (before any item runs: notes/assumptions/5.md), and reserved state values are none. -/
def Obligations.IllegalItemsRefused : Prop :=
  (∀ (b : Byte) rest, (∃ why, decodeItem (b :: rest) = .error why) ↔
    b.toNat / 16 % 8 ≠ 0 ∨ (5 ≤ b.toNat % 16 ∧ b.toNat % 16 ≤ 14) ∨
    (128 ≤ b.toNat ∧ (b.toNat % 16 = 2 ∨ b.toNat % 16 = 3 ∨ b.toNat % 16 = 15 ∨ rest.length < 3 ∨
      ∃ tail, rest = 0 :: 0 :: 0 :: tail))) ∧
  (∀ (s : State) (is : List Instr) b rest why,
    s.bench.request = none → (∀ i ∈ is, i.WellFormed ∧ i.traceItem = true) →
    decodeItem (b :: rest) = .error why → s.trace = encodeTrace is ++ b :: rest →
    step s = .refused (.illFormedTrace (encodeTrace is).length why)) ∧
  GsState.ofBits 3 = none ∧ CState.ofBits 6 = none ∧ CState.ofBits 7 = none

/-- Every well-formed instruction, with every operand its encoding admits, is read back from its
code. -/
def Obligations.DecodeEncodeRoundTrip : Prop :=
  ∀ i : Instr, i.WellFormed → decode (encode i) = .ok i

/-- Every code that decodes is the code of the well-formed instruction it decodes to: each code has
one meaning and each instruction one code. -/
def Obligations.EncodeInvertsDecode : Prop :=
  ∀ (c : Code) (i : Instr), decode c = .ok i → i.WellFormed ∧ encode i = c

/-- R87: the length of an item is fixed by bit 7 of its first byte. -/
def Obligations.ItemLengthFromBitSeven : Prop :=
  ∀ (b : Byte) rest i after, decodeItem (b :: rest) = .ok (i, after) →
    after = (b :: rest).drop (if b.toNat < 128 then 1 else 4) ∧
    after.length + (if b.toNat < 128 then 1 else 4) = (b :: rest).length

/-- R83: the count is unsigned and little-endian, the item is the step taken `n` times, only `CLK`,
`PULSE` and `MAIN` may be repeated, and a service step can never be taken twice in a row. That `exec`
of a repeat form with `n = 0` answers `zeroRepeat` is the model's choice (notes/assumptions/6.md):
R83 says only that `n = 0` is illegal, and R86 refuses its bytes. -/
def Obligations.RepeatFormIsRepetition : Prop :=
  (∀ (b0 b1 b2 b3 : Byte) rest i after, 128 ≤ b0.toNat →
    decodeItem (b0 :: b1 :: b2 :: b3 :: rest) = .ok (i, after) → after = rest ∧
    ∃ st n, repeatInstr st n = some i ∧ itemCode (b0 &&& 0x0F) st.instr ∧
      n.toNat = b1.toNat + 256 * b2.toNat + 65536 * b3.toNat) ∧
  (∀ st i n s t, repeatInstr st n = some i → n ≠ 0 →
    (exec i s = .next t ↔ runSteps (List.replicate n.toNat st) s = some t)) ∧
  (∀ st i s, s.cfg.Valid → repeatInstr st 0 = some i → exec i s = .refused .zeroRepeat) ∧
  (∀ st n, (repeatInstr st n).isSome = true ↔ st = .clk ∨ st = .pulse ∨ st = .main) ∧
  (∀ s, runSteps [.svcPa, .svcPa] s = none ∧ runSteps [.svcGt, .svcGt] s = none)

/-! ## The step -/

/-- A step runs the decoded instruction: the next item of a well-formed trace, or the row the bench
asks for (notes/assumptions/4.md, 8.md), in the state with it taken off. -/
def Obligations.StepRunsDecodedInstruction : Prop :=
  (∀ (s : State) i rest, s.bench.request = none → traceError s.trace = none →
    decodeItem s.trace = .ok (i, rest) → step s = exec i { s with trace := rest }) ∧
  (∀ (s : State) c i, s.bench.request = some c → decode c = .ok i →
    step s = exec i { s with bench := { s.bench with request := none } }) ∧
  (∀ s : State, s.bench.request = none → s.trace = [] → step s = .fault .traceEnded)

/-- A trace written from well-formed items runs item by item. -/
def Obligations.EncodedTraceRunsItemByItem : Prop :=
  ∀ (s : State) (i : Instr) (is : List Instr), s.bench.request = none →
    (∀ j ∈ i :: is, j.WellFormed ∧ j.traceItem = true) → s.trace = encodeTrace (i :: is) →
    step s = exec i { s with trace := encodeTrace is }

/-- R17, R204, R206: `CLK`, `PULSE` and `RESET` are always enabled, a service step while its event
is pending and its interrupt enabled, `MAIN` while neither service step is; a step that is not
enabled has no next state, and no step is refused. -/
def Obligations.StepsEnabledExactlyWhen : Prop :=
  ∀ s : State, s.cfg.Valid →
    (∃ t, exec .clk s = .next t) ∧ (∃ t, exec .pulse s = .next t) ∧ (∃ t, exec .reset s = .next t) ∧
    ((s.pa.ovf = true ∧ s.pa.ovie = true) → ∃ t, exec .svcPa s = .next t) ∧
    (¬(s.pa.ovf = true ∧ s.pa.ovie = true) → exec .svcPa s = .fault .svcPaNotEnabled) ∧
    ((s.gt.ovf = true ∧ s.gt.ovie = true) → ∃ t, exec .svcGt s = .next t) ∧
    (¬(s.gt.ovf = true ∧ s.gt.ovie = true) → exec .svcGt s = .fault .svcGtNotEnabled) ∧
    ((¬(s.pa.ovf = true ∧ s.pa.ovie = true) ∧ ¬(s.gt.ovf = true ∧ s.gt.ovie = true)) →
      ∃ t, exec .main s = .next t) ∧
    (((s.pa.ovf = true ∧ s.pa.ovie = true) ∨ (s.gt.ovf = true ∧ s.gt.ovie = true)) →
      exec .main s = .fault .mainNotEnabled)

/-! ## Configuration -/

/-- R8 in a valid configuration, each constant by the property that fixes it: the floor and the
ceiling as bounds, the split of the gate in both cases, the two widths and the number of digits. -/
def Obligations.GateSplitIsExact : Prop :=
  ∀ c : Config, c.Valid →
    (c.gateTicks * c.prescale ≤ c.clkHz ∧ c.clkHz < (c.gateTicks + 1) * c.prescale) ∧
    c.ovfPeriod = 2 ^ c.wg ∧
    (c.gateBudget * c.ovfPeriod < c.gateTicks ∧ c.gateTicks ≤ (c.gateBudget + 1) * c.ovfPeriod) ∧
    c.gateBudget * c.ovfPeriod + c.gateResidualTicks = c.gateTicks ∧
    (1 ≤ c.gateResidualTicks ∧ c.gateResidualTicks ≤ c.ovfPeriod) ∧
    c.gatePreload + c.gateResidualTicks = c.ovfPeriod ∧
    (¬c.ovfPeriod ∣ c.gateTicks → c.gateBudget = c.gateTicks / c.ovfPeriod ∧
      c.gateResidualTicks = c.gateTicks % c.ovfPeriod) ∧
    (c.ovfPeriod ∣ c.gateTicks → c.gateBudget = c.gateTicks / c.ovfPeriod - 1 ∧
      c.gateResidualTicks = c.ovfPeriod ∧ c.gatePreload = 0) ∧
    (∀ w, c.prescale - 1 < 2 ^ w ↔ c.wp ≤ w) ∧
    c.wf = c.w1 + c.w2 ∧
    (10 ^ (c.maxDigits - 1) ≤ 2 ^ c.wf - 1 ∧ 2 ^ c.wf - 1 < 10 ^ c.maxDigits) ∧
    (c.gateClks = c.gateTicks * c.prescale ∧ c.gateClks ≤ c.clkHz ∧
      c.clkHz - c.gateClks ≤ c.prescale - 1)

/-- The constants of DEFAULT (R10) and TOY (R11), both valid. -/
def Obligations.DefaultAndToyConstants : Prop :=
  (Config.default.Valid ∧ Config.default.gateTicks = 19531 ∧ Config.default.ovfPeriod = 256 ∧
    Config.default.gateBudget = 76 ∧ Config.default.gateResidualTicks = 75 ∧
    Config.default.gatePreload = 181 ∧ Config.default.wp = 10 ∧ Config.default.wf = 24 ∧
    Config.default.maxDigits = 8 ∧ Config.default.gateClks = 19999744) ∧
  (Config.toy.Valid ∧ Config.toy.gateTicks = 11 ∧ Config.toy.ovfPeriod = 4 ∧
    Config.toy.gateBudget = 2 ∧ Config.toy.gateResidualTicks = 3 ∧ Config.toy.gatePreload = 1 ∧
    Config.toy.wp = 1 ∧ Config.toy.wf = 6 ∧ Config.toy.maxDigits = 2 ∧ Config.toy.gateClks = 22)

/-- R9: what a valid configuration is, the bound on the budget in both its forms, and that every
instruction is refused in any other. -/
def Obligations.InvalidConfigurationRefused : Prop :=
  (∀ c : Config, c.Valid ↔ 1 ≤ c.w1 ∧ 1 ≤ c.w2 ∧ 1 ≤ c.wg ∧ 1 ≤ c.wb ∧ 1 ≤ c.clkHz ∧
    1 ≤ c.prescale ∧ 2 ^ c.wg < c.gateTicks ∧ c.gateBudget ≤ 2 ^ c.wb - 1) ∧
  (∀ c : Config, 1 ≤ c.gateBudget ↔ 2 ^ c.wg < c.gateTicks) ∧
  (∀ (i : Instr) (s : State), ¬s.cfg.Valid → exec i s = .refused .invalidConfig)

/-- R7, R47: no instruction changes the configuration, and none reads or changes the rest of the
trace or the bench's request (the model's own fields, notes/assumptions/1.md, 4.md, 8.md). -/
def Obligations.ConfigurationIsFixed : Prop :=
  ∀ (i : Instr) (s t : State), exec i s = .next t →
    t.cfg = s.cfg ∧ t.trace = s.trace ∧ t.bench.request = s.bench.request ∧
    ∀ bs r, exec i { s with trace := bs, bench := { s.bench with request := r } } =
      .next { t with trace := bs, bench := { t.bench with request := r } }

/-! ## Registers -/

/-- R26, R36, R40: the register identifiers with their numbers and widths, what reading each gives,
the packed views bit by bit, and that every value read fits its width. -/
def Obligations.RegisterViews : Prop :=
  (∀ c : Config, [RegId.paCnt, .paCtl, .gtCnt, .gtCtl, .preCnt, .ovfTally, .gsRemain, .flags, .freq,
      .cState].map (fun r => (r.number, r.width c)) =
    [(0, c.w1), (1, 4), (2, c.wg), (3, 4), (4, c.wp), (5, c.w2), (6, c.wb), (7, 3), (8, c.wf), (9, 3)]) ∧
  (∀ s : State,
    s.readReg .paCnt = s.pa.cnt ∧ s.readReg .gtCnt = s.gt.cnt ∧ s.readReg .preCnt = s.preCnt ∧
    s.readReg .ovfTally = s.ovfTally ∧ s.readReg .gsRemain = s.gsRemain ∧
    s.readReg .freq = s.freq ∧ s.readReg .cState = s.cState.bits.toNat ∧
    s.readReg .paCtl = s.pa.en.toNat + 2 * (if s.pa.cs = .ext then 1 else 0) +
      4 * s.pa.ovie.toNat + 8 * s.pa.ovf.toNat ∧
    s.readReg .gtCtl = s.gt.en.toNat + 2 * (if s.gt.cs = .ext then 1 else 0) +
      4 * s.gt.ovie.toNat + 8 * s.gt.ovf.toNat ∧
    s.readReg .flags = s.dataReady.toNat + 2 * s.gsState.bits.toNat) ∧
  (∀ (s : State) (r : RegId), s.cfg.Valid → s.InRange → s.readReg r < 2 ^ r.width s.cfg)

/-- Every instruction, the rows run alone among them, keeps every register in its width, the text
sent to the display legal and the bench's port legal. -/
def Obligations.RegistersStayInRange : Prop :=
  ∀ (i : Instr) (s t : State), s.InRange → exec i s = .next t → t.InRange

/-! ## Pulse Accumulator -/

/-- R100: one count of a register in range, with the event on the wrap and no other control changed.
-/
def Obligations.CountWrapsAndLatchesEvent : Prop :=
  ∀ (w : Nat) (u : CountUnit), u.cnt < 2 ^ w →
    (u.count w).cnt = (u.cnt + 1) % 2 ^ w ∧
    ((u.count w).ovf = true ↔ u.ovf = true ∨ u.cnt + 1 = 2 ^ w) ∧
    (u.count w).en = u.en ∧ (u.count w).cs = u.cs ∧ (u.count w).ovie = u.ovie ∧
    (∀ s : State, count .pa s = { s with pa := s.pa.count s.cfg.w1 } ∧
      count .gt s = { s with gt := s.gt.count s.cfg.wg })

/-- R101: `PULSE` counts each enabled unit that selects `EXT`, in an execution the Pulse Accumulator
alone, and changes nothing else. -/
def Obligations.PulseEffect : Prop :=
  (∀ s : State, s.cfg.Valid →
    exec .pulse s = .next { s with
      pa := s.pa.afterEvent .ext s.cfg.w1, gt := s.gt.afterEvent .ext s.cfg.wg }) ∧
  (∀ s : State, s.cfg.Valid → s.R46 →
    exec .pulse s = .next (if s.pa.en = true then { s with pa := s.pa.afterCount s.cfg.w1 } else s)) ∧
  itemCode 0x01 .pulse ∧ (∀ n, (encode (.pulseRep n)).traceBytes.head? = some 0x81)

/-- `PA_START` and `PA_STOP` have the effects of R102 and R103 and leave all else alone. That they
can run alone is the model's choice (notes/assumptions/8.md). -/
def Obligations.PulseAccumulatorStartStop : Prop :=
  (∀ s : State, s.cfg.Valid → exec .paStart s = .next { s with pa :=
    { cnt := 0, en := true, cs := .ext, ovie := true, ovf := false } }) ∧
  (∀ s : State, s.cfg.Valid → exec .paStop s = .next { s with pa := { s.pa with en := false } }) ∧
  identifies 0x10 .paStart ∧ identifies 0x11 .paStop

/-- `PULSE*n` in closed form: each unit on `EXT` counts `n`, modulo its width, and has its event set
if it wrapped at least once. -/
def Obligations.PulseRunClosedForm : Prop :=
  ∀ (s : State) (n : Count24), s.cfg.Valid → s.InRange → n ≠ 0 →
    exec (.pulseRep n) s = .next { s with
      pa := s.pa.afterEvents .ext s.cfg.w1 n.toNat, gt := s.gt.afterEvents .ext s.cfg.wg n.toNat }

/-! ## Overflow Extender -/

/-- `OE_RESET` and `OE_INC` have the effects of R110 and R111 and leave all else alone. That they
can run alone is the model's choice (notes/assumptions/8.md). -/
def Obligations.OverflowExtenderOperations : Prop :=
  (∀ s : State, s.cfg.Valid → exec .oeReset s = .next { s with ovfTally := 0 }) ∧
  (∀ s : State, s.cfg.Valid →
    exec .oeInc s = .next { s with ovfTally := (s.ovfTally + 1) % 2 ^ s.cfg.w2 }) ∧
  identifies 0x13 .oeReset ∧ identifies 0x14 .oeInc

/-- R112: `SVC_PA` where it is enabled, and that it is stuck elsewhere. -/
def Obligations.SvcPaService : Prop :=
  (∀ s : State, s.cfg.Valid → s.pa.ovf = true → s.pa.ovie = true →
    exec .svcPa s = .next { s with
      pa := { s.pa with ovf := false }, ovfTally := (s.ovfTally + 1) % 2 ^ s.cfg.w2 }) ∧
  (∀ s : State, s.cfg.Valid → ¬(s.pa.ovf = true ∧ s.pa.ovie = true) →
    exec .svcPa s = .fault .svcPaNotEnabled) ∧
  itemCode 0x02 .svcPa

/-! ## Gate Timer -/

/-- R120: `CLK` advances the prescaler, and on a tick counts each enabled unit that selects `INT`,
in an execution the Gate Timer alone, and changes nothing else. -/
def Obligations.ClkEffect : Prop :=
  (∀ s : State, s.cfg.Valid → s.preCnt = s.cfg.prescale - 1 →
    exec .clk s = .next { s with
        preCnt := 0,
        pa := s.pa.afterEvent .int s.cfg.w1, gt := s.gt.afterEvent .int s.cfg.wg }) ∧
  (∀ s : State, s.cfg.Valid → s.preCnt ≠ s.cfg.prescale - 1 →
    exec .clk s = .next { s with preCnt := s.preCnt + 1 }) ∧
  (∀ s : State, s.cfg.Valid → s.R46 → s.preCnt = s.cfg.prescale - 1 →
    exec .clk s = .next { s with
        preCnt := 0,
        gt := if s.gt.en = true then s.gt.afterCount s.cfg.wg else s.gt }) ∧
  itemCode 0x00 .clk ∧ (∀ n, (encode (.clkRep n)).traceBytes.head? = some 0x80)

/-- R121, which the spec itself derives: from `PRE_CNT = 0`, ticks are every `PRESCALE`-th `CLK`
step, and a Gate Timer started at 0 overflows on every `2^WG`-th tick. -/
def Obligations.TicksAndOverflowsArePeriodic : Prop :=
  ∀ (s : State) (k : Nat), s.cfg.Valid → s.preCnt = 0 → ∃ t,
    runSteps (List.replicate k .clk) s = some t ∧
    (atTick t = true ↔ (k + 1) % s.cfg.prescale = 0) ∧
    (s.gt.cnt = 0 → s.gt.en = true → s.gt.cs = .int →
      (wraps .gt .clk t = true ↔ (k + 1) % (2 ^ s.cfg.wg * s.cfg.prescale) = 0))

/-- `GT_START`, `GT_STOP` and `GT_LOAD` have the effects of R122 to R124 and leave all else alone.
That they can run alone is the model's choice (notes/assumptions/8.md). -/
def Obligations.GateTimerOperations : Prop :=
  (∀ s : State, s.cfg.Valid → exec .gtStart s = .next { s with preCnt := 0, gt :=
    { cnt := 0, en := true, cs := .int, ovie := true, ovf := false } }) ∧
  (∀ s : State, s.cfg.Valid → exec .gtStop s = .next { s with gt := { s.gt with en := false } }) ∧
  (∀ s : State, s.cfg.Valid →
    exec .gtLoad s = .next { s with gt := { s.gt with cnt := s.cfg.gatePreload } }) ∧
  identifies 0x15 .gtStart ∧ identifies 0x16 .gtStop ∧ identifies 0x17 .gtLoad

/-- R125, which the spec itself derives: an enabled Gate Timer just loaded at a tick next overflows
on the `GATE_RESIDUAL_TICKS`-th tick. -/
def Obligations.LastIntervalLength : Prop :=
  ∀ (s : State) (k : Nat), s.cfg.Valid → s.preCnt = 0 → s.gt.en = true → s.gt.cs = .int →
    k < s.cfg.gateResidualTicks * s.cfg.prescale →
    ∃ t u, exec .gtLoad s = .next t ∧ runSteps (List.replicate k .clk) t = some u ∧
      (wraps .gt .clk u = true ↔ k + 1 = s.cfg.gateResidualTicks * s.cfg.prescale)

/-- `CLK*n` in closed form: the prescaler advances modulo `PRESCALE`, and each unit on `INT` counts
the ticks. -/
def Obligations.ClkRunClosedForm : Prop :=
  ∀ (s : State) (n : Count24), s.cfg.Valid → s.InRange → n ≠ 0 →
    exec (.clkRep n) s = .next { s with
      preCnt := (s.preCnt + n.toNat) % s.cfg.prescale,
      pa := s.pa.afterEvents .int s.cfg.w1 ((s.preCnt + n.toNat) / s.cfg.prescale),
      gt := s.gt.afterEvents .int s.cfg.wg ((s.preCnt + n.toNat) / s.cfg.prescale) }

/-! ## Gate Sequencer -/

/-- R135 and, by the state that selects it, each behaviour of `GS_STEP` (R136 to R139), run as
`GS_STEP` or as the behaviour's own row (R85), with all they leave alone. That they can run alone is
the model's choice (notes/assumptions/8.md, 10.md). -/
def Obligations.GateSequencerBehaviours : Prop :=
  (∀ s : State, s.cfg.Valid →
    exec .gsReset s = .next { s with gsState := .counting, gsRemain := s.cfg.gateBudget }) ∧
  (∀ i ∈ [Instr.gsStep, Instr.gsStepCounting], ∀ s : State, s.cfg.Valid → s.gsState = .counting →
    ((s.gsRemain + 2 ^ s.cfg.wb - 1) % 2 ^ s.cfg.wb = 0 →
      exec i s = .next { s with
          gsRemain := 0, gsState := .lastInterval,
          gt := { s.gt with cnt := s.cfg.gatePreload } }) ∧
    ((s.gsRemain + 2 ^ s.cfg.wb - 1) % 2 ^ s.cfg.wb ≠ 0 →
      exec i s = .next { s with gsRemain := (s.gsRemain + 2 ^ s.cfg.wb - 1) % 2 ^ s.cfg.wb })) ∧
  (∀ i ∈ [Instr.gsStep, Instr.gsStepLastInterval], ∀ s : State, s.cfg.Valid →
    s.gsState = .lastInterval →
    exec i s = .next { s with
        gt := { s.gt with en := false }, pa := { s.pa with en := false },
        dataReady := true, gsState := .complete }) ∧
  (∀ i ∈ [Instr.gsStep, Instr.gsStepComplete], ∀ s : State, s.cfg.Valid → s.gsState = .complete →
    exec i s = .next s) ∧
  identifies 0x18 .gsReset ∧ identifies 0x19 .gsStep

/-- R140: `SVC_GT` where it is enabled, by the state of the sequencer, and that it is stuck
elsewhere. -/
def Obligations.SvcGtService : Prop :=
  (∀ s : State, s.cfg.Valid → s.gt.ovf = true → s.gt.ovie = true →
    (s.gsState = .counting → (s.gsRemain + 2 ^ s.cfg.wb - 1) % 2 ^ s.cfg.wb = 0 →
      exec .svcGt s = .next { s with
          gsRemain := 0, gsState := .lastInterval,
          gt := { s.gt with ovf := false, cnt := s.cfg.gatePreload } }) ∧
    (s.gsState = .counting → (s.gsRemain + 2 ^ s.cfg.wb - 1) % 2 ^ s.cfg.wb ≠ 0 →
      exec .svcGt s = .next { s with
          gt := { s.gt with ovf := false },
          gsRemain := (s.gsRemain + 2 ^ s.cfg.wb - 1) % 2 ^ s.cfg.wb }) ∧
    (s.gsState = .lastInterval →
      exec .svcGt s = .next { s with
          gt := { s.gt with ovf := false, en := false },
          pa := { s.pa with en := false }, dataReady := true, gsState := .complete }) ∧
    (s.gsState = .complete →
      exec .svcGt s = .next { s with gt := { s.gt with ovf := false } })) ∧
  (∀ s : State, s.cfg.Valid → ¬(s.gt.ovf = true ∧ s.gt.ovie = true) →
    exec .svcGt s = .fault .svcGtNotEnabled) ∧
  itemCode 0x03 .svcGt

/-- R141, which the spec itself derives: `GS_STATE` changes only from `COUNTING` to `LAST_INTERVAL`
when the counter reaches zero, from `LAST_INTERVAL` to `COMPLETE`, both by `SVC_GT`, and to
`COUNTING` by a restart or `RESET`. -/
def Obligations.GateSequencerTransitions : Prop :=
  ∀ (st : TraceStep) (s t : State), take st s = some t →
    t.gsState = s.gsState ∨
    (st = .svcGt ∧ s.gsState = .counting ∧ t.gsState = .lastInterval ∧ t.gsRemain = 0) ∨
    (st = .svcGt ∧ s.gsState = .lastInterval ∧ t.gsState = .complete) ∨
    (t.gsState = .counting ∧ (st = .reset ∨ (st = .main ∧ s.cState = .restart)))

/-! ## Measurement Controller -/

/-- R151 to R156: each behaviour of `MAIN`, by the state that selects it, while no event is
serviceable, with all it leaves alone. -/
def Obligations.MainBehaviours : Prop :=
  ∀ s : State, s.cfg.Valid → ¬(s.pa.ovf = true ∧ s.pa.ovie = true) →
    ¬(s.gt.ovf = true ∧ s.gt.ovie = true) →
    (s.cState = .boot →
      exec .main s = .next { s with cState := .restart }) ∧
    (s.cState = .poll →
      exec .main s = .next { s with cState := if s.dataReady = true then .latch else .poll }) ∧
    (s.cState = .latch →
      exec .main s = .next { s with
          dataReady := false, cState := .clear,
          freq := s.ovfTally * 2 ^ s.cfg.w1 + s.pa.cnt }) ∧
    (s.cState = .clear →
      exec .main s = .next { s with
          cState := .write,
          dispLog := s.dispLog ++ [.clear s.cfg.displayLine] }) ∧
    (s.cState = .write →
      exec .main s = .next { s with
          cState := .restart,
          dispLog := s.dispLog ++ [.write (decFormat s.freq)] }) ∧
    (s.cState = .restart →
      exec .main s = .next { s with
          cState := .poll, ovfTally := 0, gsState := .counting,
          gsRemain := s.cfg.gateBudget, preCnt := 0, dataReady := false,
          pa := { cnt := 0, en := true, cs := .ext, ovie := true, ovf := false },
          gt := { cnt := 0, en := true, cs := .int, ovie := true, ovf := false } })

/-- The behaviour rows run alone: a row of `MAIN` has the effect of `MAIN` where its state is
selected and no event is serviceable, waits as `MAIN` does where one is, and every behaviour row is
stuck while its state register selects another. Rows run alone are the model's choice
(notes/assumptions/10.md). -/
def Obligations.BehaviourRowsRunWhereSelected : Prop :=
  (∀ s : State, s.cfg.Valid →
    (s.gsState ≠ .counting → exec .gsStepCounting s = .fault .behaviourNotSelected) ∧
    (s.gsState ≠ .lastInterval → exec .gsStepLastInterval s = .fault .behaviourNotSelected) ∧
    (s.gsState ≠ .complete → exec .gsStepComplete s = .fault .behaviourNotSelected) ∧
    (s.cState ≠ .boot → exec .mainBoot s = .fault .behaviourNotSelected) ∧
    (s.cState ≠ .poll → exec .mainPoll s = .fault .behaviourNotSelected) ∧
    (s.cState ≠ .latch → exec .mainLatch s = .fault .behaviourNotSelected) ∧
    (s.cState ≠ .clear → exec .mainClear s = .fault .behaviourNotSelected) ∧
    (s.cState ≠ .write → exec .mainWrite s = .fault .behaviourNotSelected) ∧
    (s.cState ≠ .restart → exec .mainRestart s = .fault .behaviourNotSelected)) ∧
  (∀ p ∈ [(CState.boot, Instr.mainBoot), (.poll, .mainPoll), (.latch, .mainLatch),
      (.clear, .mainClear), (.write, .mainWrite), (.restart, .mainRestart)],
    ∀ s : State, s.cfg.Valid → s.cState = p.1 →
    (¬(s.pa.ovf = true ∧ s.pa.ovie = true) ∧ ¬(s.gt.ovf = true ∧ s.gt.ovie = true) →
      ∃ t, exec p.2 s = .next t ∧ exec .main s = .next t) ∧
    ((s.pa.ovf = true ∧ s.pa.ovie = true) ∨ (s.gt.ovf = true ∧ s.gt.ovie = true) →
      exec p.2 s = .fault .mainNotEnabled))

/-- R150: `C_STATE` changes only by `MAIN`, along the loop, and by `RESET`. -/
def Obligations.ControllerTransitions : Prop :=
  ∀ (st : TraceStep) (s t : State), take st s = some t →
    (st ≠ .main → st ≠ .reset → t.cState = s.cState) ∧
    (st = .reset → t.cState = .boot) ∧
    (st = .main →
      (s.cState = .boot → t.cState = .restart) ∧
      (s.cState = .poll → s.dataReady = true → t.cState = .latch) ∧
      (s.cState = .poll → s.dataReady = false → t = s) ∧
      (s.cState = .latch → t.cState = .clear) ∧
      (s.cState = .clear → t.cState = .write) ∧
      (s.cState = .write → t.cState = .restart) ∧
      (s.cState = .restart → t.cState = .poll))

/-- `MAIN*n` answers wherever `MAIN` is enabled, with what `n` steps of `MAIN` give: no `MAIN` step
makes an event pending (R83, R209). -/
def Obligations.MainRunCompletes : Prop :=
  ∀ (s : State) (n : Count24), s.cfg.Valid → n ≠ 0 → ¬(s.pa.ovf = true ∧ s.pa.ovie = true) →
    ¬(s.gt.ovf = true ∧ s.gt.ovie = true) →
    ∃ t, exec (.mainRep n) s = .next t ∧ runSteps (List.replicate n.toNat .main) s = some t

/-- R160: `CYCLE_RESTART` gives the fifteen fields their values from any state, leaves the rest
alone, and applied twice changes nothing more. That it can run alone is the model's choice
(notes/assumptions/8.md). -/
def Obligations.CycleRestartEffect : Prop :=
  (∀ s : State, s.cfg.Valid →
    exec .cycleRestart s = .next { s with
        ovfTally := 0, gsState := .counting,
        gsRemain := s.cfg.gateBudget, preCnt := 0, dataReady := false,
        pa := { cnt := 0, en := true, cs := .ext, ovie := true, ovf := false },
        gt := { cnt := 0, en := true, cs := .int, ovie := true, ovf := false } }) ∧
  (∀ s t : State, exec .cycleRestart s = .next t → exec .cycleRestart t = .next t) ∧
  identifies 0x1A .cycleRestart

/-- R161: `FREQ_COMBINE` is exact in `WF` bits for registers in range. Where the result is left is
the model's choice (notes/assumptions/9.md). -/
def Obligations.FreqCombineIsExact : Prop :=
  (∀ s : State, s.cfg.Valid →
    exec .freqCombine s = .next { s with
      bench := { s.bench with num := s.ovfTally * 2 ^ s.cfg.w1 + s.pa.cnt } }) ∧
  (∀ s : State, s.InRange → s.ovfTally * 2 ^ s.cfg.w1 + s.pa.cnt < 2 ^ s.cfg.wf) ∧
  (∀ s : State, s.InRange → freqCombine s / 2 ^ s.cfg.w1 = s.ovfTally ∧
    freqCombine s % 2 ^ s.cfg.w1 = s.pa.cnt)

/-- R162, R91: the decimal text of a count: ASCII digits, most significant first, that denote the
number, no leading zero but the single "0", at most `MAX_DIGITS` of them for a number of `WF` bits.
-/
def Obligations.DecimalTextIsCorrect : Prop :=
  ∀ n : Nat,
    (decFormat n).foldl (fun acc b => 10 * acc + (b.toNat - 0x30)) 0 = n ∧
    (∀ b ∈ decFormat n, 0x30 ≤ b.toNat ∧ b.toNat ≤ 0x39) ∧
    (n = 0 → decFormat n = [0x30]) ∧
    (n ≠ 0 → (decFormat n).head? ≠ some 0x30) ∧
    (∀ c : Config, n < 2 ^ c.wf → 1 ≤ (decFormat n).length ∧ (decFormat n).length ≤ c.maxDigits)

/-- `PA_READ` and `DEC_FORMAT` run alone return what R104 and R162 say and change no register. That
they run alone and leave the result at the bench's port is the model's choice
(notes/assumptions/8.md, 9.md). -/
def Obligations.ReadAndFormatRunAlone : Prop :=
  (∀ s : State, s.cfg.Valid → paRead s = s.pa.cnt ∧
    exec .paRead s = .next { s with bench := { s.bench with num := s.pa.cnt } }) ∧
  (∀ s : State, s.cfg.Valid →
    exec .decFormat s = .next { s with bench := { s.bench with text := decFormat s.bench.num } }) ∧
  identifies 0x12 .paRead ∧ identifies 0x1C .decFormat

/-- R164, R165: each display operation appends one event and changes nothing else. That they run
alone, `DISP_WRITE` with its operand at the bench's port, is the model's choice
(notes/assumptions/8.md, 9.md). -/
def Obligations.DisplayOperations : Prop :=
  (∀ s : State, s.cfg.Valid → exec .dispClear s = .next { s with
    dispLog := s.dispLog ++ [.clear s.cfg.displayLine] }) ∧
  (∀ s : State, s.cfg.Valid → exec .dispWrite s = .next { s with
    dispLog := s.dispLog ++ [.write s.bench.text] }) ∧
  identifies 0x1D .dispClear ∧ identifies 0x1E .dispWrite

/-! ## Reset -/

/-- R230: `RESET` gives every field of the block's state its reset value from any state. The trace
and the bench's port are the model's own and stay. -/
def Obligations.ResetEffect : Prop :=
  (∀ s : State, s.cfg.Valid → exec .reset s = .next {
    cfg := s.cfg, trace := s.trace, bench := s.bench,
    pa := { cnt := 0, en := false, cs := .int, ovie := false, ovf := false },
    gt := { cnt := 0, en := false, cs := .int, ovie := false, ovf := false },
    preCnt := 0, ovfTally := 0, gsRemain := s.cfg.gateBudget, gsState := .counting,
    dataReady := false, freq := 0, cState := .boot, dispLog := [] }) ∧
  itemCode 0x0F .reset

/-- R45: the reset values of every field of the block's state, in the configuration DEFAULT, the
model's choice (notes/assumptions/1.md). -/
def Obligations.ResetValues : Prop :=
  State.reset.cfg = Config.default ∧
  State.reset.pa = { cnt := 0, en := false, cs := .int, ovie := false, ovf := false } ∧
  State.reset.gt = { cnt := 0, en := false, cs := .int, ovie := false, ovf := false } ∧
  State.reset.preCnt = 0 ∧ State.reset.ovfTally = 0 ∧ State.reset.gsRemain = 76 ∧
  State.reset.gsState = .counting ∧ State.reset.dataReady = false ∧ State.reset.freq = 0 ∧
  State.reset.cState = .boot ∧ State.reset.dispLog = []

/-! ## The whole machine -/

/-- The invariant of R46, which the spec itself derives, holds after reset, in every valid
configuration. -/
def Obligations.InvariantHoldsAtReset : Prop :=
  State.reset.Inv ∧ ∀ c : Config, c.Valid → (State.resetOf c).Inv

/-- R46, which the spec itself derives: every step from a state of the invariant leads to one. -/
def Obligations.InvariantKeptByEveryStep : Prop :=
  ∀ s t : State, s.Inv → step s = .next t → t.Inv

/-- R41, which the spec itself derives: which fields each domain may write. A step changes no field
but those named for it. The new values of the counts, `PRE_CNT` and `OVF_TALLY` under `CLK`, `PULSE`
and the service steps are not said here but in PulseEffect, ClkEffect, SvcPaService and
SvcGtService. -/
def Obligations.DomainOwnership : Prop :=
  (∀ s t : State, take .clk s = some t → ∃ pn po gn go p,
    t = { s with
        pa := { s.pa with cnt := pn, ovf := po }, gt := { s.gt with cnt := gn, ovf := go },
        preCnt := p } ∧
    (po = s.pa.ovf ∨ (po = true ∧ pn = 0)) ∧ (go = s.gt.ovf ∨ (go = true ∧ gn = 0))) ∧
  (∀ s t : State, take .pulse s = some t → ∃ pn po gn go,
    t = { s with pa := { s.pa with cnt := pn, ovf := po }, gt := { s.gt with cnt := gn, ovf := go } } ∧
    (po = s.pa.ovf ∨ (po = true ∧ pn = 0)) ∧ (go = s.gt.ovf ∨ (go = true ∧ gn = 0))) ∧
  (∀ s t : State, take .svcPa s = some t → ∃ n,
    t = { s with pa := { s.pa with ovf := false }, ovfTally := n }) ∧
  (∀ s t : State, take .svcGt s = some t → ∃ pe gn ge r g d,
    t = { s with
        pa := { s.pa with en := pe }, gt := { s.gt with cnt := gn, en := ge, ovf := false },
        gsRemain := r, gsState := g, dataReady := d } ∧
    (s.gsState = .lastInterval → pe = false ∧ ge = false ∧ d = true) ∧
    (s.gsState ≠ .lastInterval → pe = s.pa.en ∧ ge = s.gt.en ∧ d = s.dataReady) ∧
    (s.gsState ≠ .counting → gn = s.gt.cnt)) ∧
  (∀ s t : State, take .main s = some t → s.cState ≠ .restart → ∃ d f c l,
    t = { s with dataReady := d, freq := f, cState := c, dispLog := l } ∧
    (s.cState = .latch → d = false) ∧ (s.cState ≠ .latch → d = s.dataReady ∧ f = s.freq)) ∧
  (∀ s t : State, take .main s = some t → s.cState = .restart →
    t.freq = s.freq ∧ t.dispLog = s.dispLog ∧ t.pa.cnt = 0 ∧ t.pa.en = true ∧ t.pa.ovf = false ∧
    t.gt.cnt = 0 ∧ t.gt.en = true ∧ t.gt.ovf = false ∧ t.preCnt = 0 ∧ t.ovfTally = 0 ∧
    t.gsState = .counting ∧ t.gsRemain = s.cfg.gateBudget ∧ t.dataReady = false)

/-- R207, which the spec itself derives: with both events serviceable, the two service steps may be
taken in either order and give the same state. -/
def Obligations.ServicesCommute : Prop :=
  ∀ s : State, s.cfg.Valid → svcPaEnabled s = true → svcGtEnabled s = true →
    ∃ t, runSteps [.svcPa, .svcGt] s = some t ∧ runSteps [.svcGt, .svcPa] s = some t

/-- R71, which the spec itself derives, and FC's property S6: once `DATA_READY` is set, no step
before the restart changes the count, starts a unit or raises an event, and the tally changes only
by a wrap already pending. -/
def Obligations.CountsStayAfterDataReady : Prop :=
  ∀ (s t : State) (steps : List TraceStep), s.Inv → s.dataReady = true →
    withinCycle steps s = true → runSteps steps s = some t →
    t.pa.cnt = s.pa.cnt ∧ t.pa.en = false ∧ t.gt.en = false ∧ t.gt.ovf = false ∧
    (t.pa.ovf = true → s.pa.ovf = true) ∧
    (t.ovfTally = s.ovfTally ∨
      (s.pa.ovf = true ∧ t.pa.ovf = false ∧ t.ovfTally = (s.ovfTally + 1) % 2 ^ s.cfg.w2))

/-- R232: while both units are disabled, `CLK` and `PULSE` steps change only `PRE_CNT`. -/
def Obligations.StartupDelayTurnsOnlyThePrescaler : Prop :=
  ∀ (s : State) (steps : List TraceStep), s.cfg.Valid → s.pa.en = false → s.gt.en = false →
    s.preCnt < s.cfg.prescale → (∀ st ∈ steps, st = .clk ∨ st = .pulse) →
    runSteps steps s =
      some { s with preCnt := (s.preCnt + steps.count .clk) % s.cfg.prescale }

/-- R89, `BOOT`: from any state, `RESET MAIN MAIN` starts the first gate with nothing sent to the
display. -/
def Obligations.BootStartsTheFirstGate : Prop :=
  ∀ s : State, s.cfg.Valid → ∃ t, runSteps [.reset, .main, .main] s = some t ∧ CycleStart t ∧
    t.freq = 0 ∧ t.dispLog = [] ∧ t.cfg = s.cfg ∧ t.trace = s.trace ∧ t.bench = s.bench

/-- R89, `REPORT`: with the flag set and nothing serviceable, `MAIN*5` reports the combined count
once and starts the next gate. -/
def Obligations.ReportItemReportsOnce : Prop :=
  ∀ s : State, s.cfg.Valid → s.cState = .poll → s.dataReady = true → mainEnabled s = true →
    ∃ t, exec (.mainRep 5) s = .next t ∧ CycleStart t ∧
      t.freq = s.ovfTally * 2 ^ s.cfg.w1 + s.pa.cnt ∧
      t.dispLog = s.dispLog ++ [.clear s.cfg.displayLine, .write (decFormat t.freq)] ∧
      t.cfg = s.cfg ∧ t.trace = s.trace ∧ t.bench = s.bench

/-- R89, `TICK` and `TICK*k`: from `PRE_CNT = 0`, `CLK*(k * PRESCALE)` gives `k` ticks and `PRE_CNT
= 0` again. -/
def Obligations.TickItemGivesTicks : Prop :=
  ∀ (s : State) (k : Nat), s.cfg.Valid → s.InRange → s.preCnt = 0 → 1 ≤ k →
    k * s.cfg.prescale ≤ 16777215 →
    exec (.clkRep (BitVec.ofNat 24 (k * s.cfg.prescale))) s = .next { s with
      pa := s.pa.afterEvents .int s.cfg.w1 k, gt := s.gt.afterEvents .int s.cfg.wg k }

/-- R166, R167, which the spec itself derives: whatever the schedule, if no wrap of the Pulse
Accumulator is lost, the cycle ends with exactly one clear-line and one write-string, and the number
written is the number of pulses counted in the gate modulo `2^WF`. -/
def Obligations.EachCycleReportsItsPulseCount : Prop :=
  ∀ (s t : State) (steps : List TraceStep), s.cfg.Valid → CycleStart s →
    withinCycle steps s = true → noLostOverflow .pa steps s = true → runSteps steps s = some t →
    t.cState = .restart →
    t.dispLog = s.dispLog ++
      [.clear s.cfg.displayLine, .write (decFormat (pulsesCounted steps s % 2 ^ s.cfg.wf))]

/-- R142, R212, which the spec itself derives (`ExactGate` as notes/assumptions/27.md reads it):
under `ExactGate` the Gate Timer is enabled for exactly `GATE_CLKS` `CLK` steps of a completed
gate. -/
def Obligations.ExactGateLastsGateClks : Prop :=
  ∀ (s t : State) (steps : List TraceStep), s.cfg.Valid → CycleStart s →
    withinCycle steps s = true → exactGate steps s = true → runSteps steps s = some t →
    t.gsState = .complete → clksGated steps s = s.cfg.gateClks

/-- R141, which the spec itself derives: a cycle that completes takes `SVC_GT` exactly `GATE_BUDGET
+ 1` times, whatever the schedule. -/
def Obligations.ServicesPerCycle : Prop :=
  ∀ (s t : State) (steps : List TraceStep), s.cfg.Valid → CycleStart s →
    withinCycle steps s = true → runSteps steps s = some t → t.gsState = .complete →
    steps.count .svcGt = s.cfg.gateBudget + 1

/-- R209: a round of the eager schedule is an execution that adds only service and controller steps,
at most six of them `MAIN`, and leaves nothing serviceable and the controller polling with the flag
clear. -/
def Obligations.EagerRoundIsAnExecution : Prop :=
  ∀ (e : EnvStep) (s : State), s.cfg.Valid → ∃ steps,
    runSteps (e.toStep :: steps) s = some (eagerStep e s) ∧
    (∀ st ∈ steps, st = .svcPa ∨ st = .svcGt ∨ st = .main) ∧ steps.count .main ≤ 6 ∧
    svcPaEnabled (eagerStep e s) = false ∧ svcGtEnabled (eagerStep e s) = false ∧
    (eagerStep e s).cState = .poll ∧ (eagerStep e s).dataReady = false

/-- R142, R167, which the spec itself derives, and R209: under the eager schedule a gate is exactly
`GATE_CLKS` `CLK` steps, wherever the pulses fall; nothing is sent before its last `CLK` step, and
that step sends the number of pulses modulo `2^WF` and starts the next gate. -/
def Obligations.EagerScheduleMeasuresFrequency : Prop :=
  ∀ (s : State) (env : List EnvStep), s.cfg.Valid → CycleStart s →
    (∀ e ∈ env, e = .clk ∨ e = .pulse) → env.count .clk + 1 = s.cfg.gateClks →
    (eager env s).dispLog = s.dispLog ∧
    CycleStart (eager (env ++ [.clk]) s) ∧
    (eager (env ++ [.clk]) s).dispLog = s.dispLog ++
      [.clear s.cfg.displayLine, .write (decFormat (env.count .pulse % 2 ^ s.cfg.wf))]

/-- R210: in every fair execution without `RESET`, every cycle ends: the log grows again and again.
Fairness is as notes/assumptions/24.md reads it. -/
def Obligations.FairExecutionsKeepReporting : Prop :=
  ∀ (σ : Nat → State) (st : Nat → TraceStep), (σ 0).Inv → InfiniteRun σ st → Fair σ st →
    (∀ n, st n ≠ .reset) → ∀ n, ∃ m, n ≤ m ∧ (σ n).dispLog.length < (σ m).dispLog.length

/-! ## Text -/

/-- R88, R89: texts of the vectors V97, V111, V112 and V108, and V109's `BOOT` followed by a comment,
with what they assemble to. That a comment may start inside an item and ends it is the model's
choice (notes/assumptions/22.md). -/
def Obligations.AssemblerSamples : Prop :=
  assemble Config.default ['C', 'L', 'K', '*', '1', '0', '2', '4'] = .ok [0x80, 0x00, 0x04, 0x00] ∧
  assemble Config.default ['B', 'O', 'O', 'T', ';', 'x'] = .ok [0x0F, 0x04, 0x04] ∧
  assemble Config.default ['T', 'I', 'C', 'K', '*', '2', '5', '6'] = .ok [0x80, 0x00, 0x00, 0x04] ∧
  assemble Config.default ['R', 'E', 'P', 'O', 'R', 'T'] = .ok [0x84, 0x05, 0x00, 0x00] ∧
  assemble Config.toy ['C', 'L', 'K', '*', '1', '6', '7', '7', '7', '2', '1', '6'] =
    .error (.countOutOfRange 16777216)

/-- Whatever text the assembler accepts, its bytes are a well-formed trace (R86, R88). -/
def Obligations.AssembledTextIsWellFormed : Prop :=
  ∀ (c : Config) (text : List Char) (bs : List Byte),
    assemble c text = .ok bs → traceError bs = none
end

