-- ==== Sys2Proof/Laws/Decode.lean ====
section
/-! SUPPORT. The fields of a packed byte and the bytes of a count read back: what proofs about
decoding and encoding cite. -/

namespace Sys2Proof

@[simp] theorem repField_packByte (r : Bool) (cls : BitVec 3) (op : BitVec 4) :
    repField (packByte r cls op) = r := by
  revert r cls op; decide

@[simp] theorem clsField_packByte (r : Bool) (cls : BitVec 3) (op : BitVec 4) :
    clsField (packByte r cls op) = cls := by
  revert r cls op; decide

@[simp] theorem opField_packByte (r : Bool) (cls : BitVec 3) (op : BitVec 4) :
    opField (packByte r cls op) = op := by
  revert r cls op; decide

/-- A byte is its fields. -/
theorem packByte_fields (b : Byte) : packByte (repField b) (clsField b) (opField b) = b := by
  revert b; decide

@[simp] theorem stepOfOp_opOfStep (st : TraceStep) : stepOfOp (opOfStep st) = some st := by
  cases st <;> rfl

/-- An operation code that names a step is that step's code. -/
theorem opOfStep_of_stepOfOp {op : BitVec 4} {st : TraceStep} (h : stepOfOp op = some st) :
    opOfStep st = op := by
  revert op st; decide

/-- The bytes of a count, joined, are the count. -/
@[simp] theorem joinCount_countByte (n : Count24) :
    joinCount (countByte n 0) (countByte n 1) (countByte n 2) = n := by
  apply BitVec.eq_of_toNat_eq
  have h := n.isLt
  simp only [joinCount, countByte, BitVec.toNat_append, BitVec.extractLsb'_toNat]
  rw [← Nat.shiftLeft_add_eq_or_of_lt (by omega), ← Nat.shiftLeft_add_eq_or_of_lt (by omega)]
  simp only [Nat.shiftLeft_eq, Nat.shiftRight_eq_div_pow]
  omega

end Sys2Proof
end

