-- ==== Sys2Proof/Laws/State.lean ====
section
/-! SUPPORT. One lemma per field per update of State: the field written reads the value written,
every other field reads as before. -/

namespace Sys2Proof.Machine

variable (s : State)

/-! ### `setPa` -/

@[simp] theorem State.setPa_cfg (u : CountUnit) : (s.setPa u).cfg = s.cfg := rfl
@[simp] theorem State.setPa_pa (u : CountUnit) : (s.setPa u).pa = u := rfl
@[simp] theorem State.setPa_gt (u : CountUnit) : (s.setPa u).gt = s.gt := rfl
@[simp] theorem State.setPa_preCnt (u : CountUnit) : (s.setPa u).preCnt = s.preCnt := rfl
@[simp] theorem State.setPa_ovfTally (u : CountUnit) : (s.setPa u).ovfTally = s.ovfTally := rfl
@[simp] theorem State.setPa_gsRemain (u : CountUnit) : (s.setPa u).gsRemain = s.gsRemain := rfl
@[simp] theorem State.setPa_gsState (u : CountUnit) : (s.setPa u).gsState = s.gsState := rfl
@[simp] theorem State.setPa_dataReady (u : CountUnit) : (s.setPa u).dataReady = s.dataReady := rfl
@[simp] theorem State.setPa_freq (u : CountUnit) : (s.setPa u).freq = s.freq := rfl
@[simp] theorem State.setPa_cState (u : CountUnit) : (s.setPa u).cState = s.cState := rfl
@[simp] theorem State.setPa_dispLog (u : CountUnit) : (s.setPa u).dispLog = s.dispLog := rfl
@[simp] theorem State.setPa_trace (u : CountUnit) : (s.setPa u).trace = s.trace := rfl
@[simp] theorem State.setPa_bench (u : CountUnit) : (s.setPa u).bench = s.bench := rfl

/-! ### `setGt` -/

@[simp] theorem State.setGt_cfg (u : CountUnit) : (s.setGt u).cfg = s.cfg := rfl
@[simp] theorem State.setGt_pa (u : CountUnit) : (s.setGt u).pa = s.pa := rfl
@[simp] theorem State.setGt_gt (u : CountUnit) : (s.setGt u).gt = u := rfl
@[simp] theorem State.setGt_preCnt (u : CountUnit) : (s.setGt u).preCnt = s.preCnt := rfl
@[simp] theorem State.setGt_ovfTally (u : CountUnit) : (s.setGt u).ovfTally = s.ovfTally := rfl
@[simp] theorem State.setGt_gsRemain (u : CountUnit) : (s.setGt u).gsRemain = s.gsRemain := rfl
@[simp] theorem State.setGt_gsState (u : CountUnit) : (s.setGt u).gsState = s.gsState := rfl
@[simp] theorem State.setGt_dataReady (u : CountUnit) : (s.setGt u).dataReady = s.dataReady := rfl
@[simp] theorem State.setGt_freq (u : CountUnit) : (s.setGt u).freq = s.freq := rfl
@[simp] theorem State.setGt_cState (u : CountUnit) : (s.setGt u).cState = s.cState := rfl
@[simp] theorem State.setGt_dispLog (u : CountUnit) : (s.setGt u).dispLog = s.dispLog := rfl
@[simp] theorem State.setGt_trace (u : CountUnit) : (s.setGt u).trace = s.trace := rfl
@[simp] theorem State.setGt_bench (u : CountUnit) : (s.setGt u).bench = s.bench := rfl

/-! ### `setPreCnt` -/

@[simp] theorem State.setPreCnt_cfg (n : Nat) : (s.setPreCnt n).cfg = s.cfg := rfl
@[simp] theorem State.setPreCnt_pa (n : Nat) : (s.setPreCnt n).pa = s.pa := rfl
@[simp] theorem State.setPreCnt_gt (n : Nat) : (s.setPreCnt n).gt = s.gt := rfl
@[simp] theorem State.setPreCnt_preCnt (n : Nat) : (s.setPreCnt n).preCnt = n := rfl
@[simp] theorem State.setPreCnt_ovfTally (n : Nat) : (s.setPreCnt n).ovfTally = s.ovfTally := rfl
@[simp] theorem State.setPreCnt_gsRemain (n : Nat) : (s.setPreCnt n).gsRemain = s.gsRemain := rfl
@[simp] theorem State.setPreCnt_gsState (n : Nat) : (s.setPreCnt n).gsState = s.gsState := rfl
@[simp] theorem State.setPreCnt_dataReady (n : Nat) : (s.setPreCnt n).dataReady = s.dataReady := rfl
@[simp] theorem State.setPreCnt_freq (n : Nat) : (s.setPreCnt n).freq = s.freq := rfl
@[simp] theorem State.setPreCnt_cState (n : Nat) : (s.setPreCnt n).cState = s.cState := rfl
@[simp] theorem State.setPreCnt_dispLog (n : Nat) : (s.setPreCnt n).dispLog = s.dispLog := rfl
@[simp] theorem State.setPreCnt_trace (n : Nat) : (s.setPreCnt n).trace = s.trace := rfl
@[simp] theorem State.setPreCnt_bench (n : Nat) : (s.setPreCnt n).bench = s.bench := rfl

/-! ### `setOvfTally` -/

@[simp] theorem State.setOvfTally_cfg (n : Nat) : (s.setOvfTally n).cfg = s.cfg := rfl
@[simp] theorem State.setOvfTally_pa (n : Nat) : (s.setOvfTally n).pa = s.pa := rfl
@[simp] theorem State.setOvfTally_gt (n : Nat) : (s.setOvfTally n).gt = s.gt := rfl
@[simp] theorem State.setOvfTally_preCnt (n : Nat) : (s.setOvfTally n).preCnt = s.preCnt := rfl
@[simp] theorem State.setOvfTally_ovfTally (n : Nat) : (s.setOvfTally n).ovfTally = n := rfl
@[simp] theorem State.setOvfTally_gsRemain (n : Nat) : (s.setOvfTally n).gsRemain = s.gsRemain := rfl
@[simp] theorem State.setOvfTally_gsState (n : Nat) : (s.setOvfTally n).gsState = s.gsState := rfl
@[simp] theorem State.setOvfTally_dataReady (n : Nat) : (s.setOvfTally n).dataReady = s.dataReady := rfl
@[simp] theorem State.setOvfTally_freq (n : Nat) : (s.setOvfTally n).freq = s.freq := rfl
@[simp] theorem State.setOvfTally_cState (n : Nat) : (s.setOvfTally n).cState = s.cState := rfl
@[simp] theorem State.setOvfTally_dispLog (n : Nat) : (s.setOvfTally n).dispLog = s.dispLog := rfl
@[simp] theorem State.setOvfTally_trace (n : Nat) : (s.setOvfTally n).trace = s.trace := rfl
@[simp] theorem State.setOvfTally_bench (n : Nat) : (s.setOvfTally n).bench = s.bench := rfl

/-! ### `setGsRemain` -/

@[simp] theorem State.setGsRemain_cfg (n : Nat) : (s.setGsRemain n).cfg = s.cfg := rfl
@[simp] theorem State.setGsRemain_pa (n : Nat) : (s.setGsRemain n).pa = s.pa := rfl
@[simp] theorem State.setGsRemain_gt (n : Nat) : (s.setGsRemain n).gt = s.gt := rfl
@[simp] theorem State.setGsRemain_preCnt (n : Nat) : (s.setGsRemain n).preCnt = s.preCnt := rfl
@[simp] theorem State.setGsRemain_ovfTally (n : Nat) : (s.setGsRemain n).ovfTally = s.ovfTally := rfl
@[simp] theorem State.setGsRemain_gsRemain (n : Nat) : (s.setGsRemain n).gsRemain = n := rfl
@[simp] theorem State.setGsRemain_gsState (n : Nat) : (s.setGsRemain n).gsState = s.gsState := rfl
@[simp] theorem State.setGsRemain_dataReady (n : Nat) : (s.setGsRemain n).dataReady = s.dataReady := rfl
@[simp] theorem State.setGsRemain_freq (n : Nat) : (s.setGsRemain n).freq = s.freq := rfl
@[simp] theorem State.setGsRemain_cState (n : Nat) : (s.setGsRemain n).cState = s.cState := rfl
@[simp] theorem State.setGsRemain_dispLog (n : Nat) : (s.setGsRemain n).dispLog = s.dispLog := rfl
@[simp] theorem State.setGsRemain_trace (n : Nat) : (s.setGsRemain n).trace = s.trace := rfl
@[simp] theorem State.setGsRemain_bench (n : Nat) : (s.setGsRemain n).bench = s.bench := rfl

/-! ### `setGsState` -/

@[simp] theorem State.setGsState_cfg (g : GsState) : (s.setGsState g).cfg = s.cfg := rfl
@[simp] theorem State.setGsState_pa (g : GsState) : (s.setGsState g).pa = s.pa := rfl
@[simp] theorem State.setGsState_gt (g : GsState) : (s.setGsState g).gt = s.gt := rfl
@[simp] theorem State.setGsState_preCnt (g : GsState) : (s.setGsState g).preCnt = s.preCnt := rfl
@[simp] theorem State.setGsState_ovfTally (g : GsState) : (s.setGsState g).ovfTally = s.ovfTally := rfl
@[simp] theorem State.setGsState_gsRemain (g : GsState) : (s.setGsState g).gsRemain = s.gsRemain := rfl
@[simp] theorem State.setGsState_gsState (g : GsState) : (s.setGsState g).gsState = g := rfl
@[simp] theorem State.setGsState_dataReady (g : GsState) : (s.setGsState g).dataReady = s.dataReady := rfl
@[simp] theorem State.setGsState_freq (g : GsState) : (s.setGsState g).freq = s.freq := rfl
@[simp] theorem State.setGsState_cState (g : GsState) : (s.setGsState g).cState = s.cState := rfl
@[simp] theorem State.setGsState_dispLog (g : GsState) : (s.setGsState g).dispLog = s.dispLog := rfl
@[simp] theorem State.setGsState_trace (g : GsState) : (s.setGsState g).trace = s.trace := rfl
@[simp] theorem State.setGsState_bench (g : GsState) : (s.setGsState g).bench = s.bench := rfl

/-! ### `setDataReady` -/

@[simp] theorem State.setDataReady_cfg (b : Bool) : (s.setDataReady b).cfg = s.cfg := rfl
@[simp] theorem State.setDataReady_pa (b : Bool) : (s.setDataReady b).pa = s.pa := rfl
@[simp] theorem State.setDataReady_gt (b : Bool) : (s.setDataReady b).gt = s.gt := rfl
@[simp] theorem State.setDataReady_preCnt (b : Bool) : (s.setDataReady b).preCnt = s.preCnt := rfl
@[simp] theorem State.setDataReady_ovfTally (b : Bool) : (s.setDataReady b).ovfTally = s.ovfTally := rfl
@[simp] theorem State.setDataReady_gsRemain (b : Bool) : (s.setDataReady b).gsRemain = s.gsRemain := rfl
@[simp] theorem State.setDataReady_gsState (b : Bool) : (s.setDataReady b).gsState = s.gsState := rfl
@[simp] theorem State.setDataReady_dataReady (b : Bool) : (s.setDataReady b).dataReady = b := rfl
@[simp] theorem State.setDataReady_freq (b : Bool) : (s.setDataReady b).freq = s.freq := rfl
@[simp] theorem State.setDataReady_cState (b : Bool) : (s.setDataReady b).cState = s.cState := rfl
@[simp] theorem State.setDataReady_dispLog (b : Bool) : (s.setDataReady b).dispLog = s.dispLog := rfl
@[simp] theorem State.setDataReady_trace (b : Bool) : (s.setDataReady b).trace = s.trace := rfl
@[simp] theorem State.setDataReady_bench (b : Bool) : (s.setDataReady b).bench = s.bench := rfl

/-! ### `setFreq` -/

@[simp] theorem State.setFreq_cfg (n : Nat) : (s.setFreq n).cfg = s.cfg := rfl
@[simp] theorem State.setFreq_pa (n : Nat) : (s.setFreq n).pa = s.pa := rfl
@[simp] theorem State.setFreq_gt (n : Nat) : (s.setFreq n).gt = s.gt := rfl
@[simp] theorem State.setFreq_preCnt (n : Nat) : (s.setFreq n).preCnt = s.preCnt := rfl
@[simp] theorem State.setFreq_ovfTally (n : Nat) : (s.setFreq n).ovfTally = s.ovfTally := rfl
@[simp] theorem State.setFreq_gsRemain (n : Nat) : (s.setFreq n).gsRemain = s.gsRemain := rfl
@[simp] theorem State.setFreq_gsState (n : Nat) : (s.setFreq n).gsState = s.gsState := rfl
@[simp] theorem State.setFreq_dataReady (n : Nat) : (s.setFreq n).dataReady = s.dataReady := rfl
@[simp] theorem State.setFreq_freq (n : Nat) : (s.setFreq n).freq = n := rfl
@[simp] theorem State.setFreq_cState (n : Nat) : (s.setFreq n).cState = s.cState := rfl
@[simp] theorem State.setFreq_dispLog (n : Nat) : (s.setFreq n).dispLog = s.dispLog := rfl
@[simp] theorem State.setFreq_trace (n : Nat) : (s.setFreq n).trace = s.trace := rfl
@[simp] theorem State.setFreq_bench (n : Nat) : (s.setFreq n).bench = s.bench := rfl

/-! ### `setCState` -/

@[simp] theorem State.setCState_cfg (c : CState) : (s.setCState c).cfg = s.cfg := rfl
@[simp] theorem State.setCState_pa (c : CState) : (s.setCState c).pa = s.pa := rfl
@[simp] theorem State.setCState_gt (c : CState) : (s.setCState c).gt = s.gt := rfl
@[simp] theorem State.setCState_preCnt (c : CState) : (s.setCState c).preCnt = s.preCnt := rfl
@[simp] theorem State.setCState_ovfTally (c : CState) : (s.setCState c).ovfTally = s.ovfTally := rfl
@[simp] theorem State.setCState_gsRemain (c : CState) : (s.setCState c).gsRemain = s.gsRemain := rfl
@[simp] theorem State.setCState_gsState (c : CState) : (s.setCState c).gsState = s.gsState := rfl
@[simp] theorem State.setCState_dataReady (c : CState) : (s.setCState c).dataReady = s.dataReady := rfl
@[simp] theorem State.setCState_freq (c : CState) : (s.setCState c).freq = s.freq := rfl
@[simp] theorem State.setCState_cState (c : CState) : (s.setCState c).cState = c := rfl
@[simp] theorem State.setCState_dispLog (c : CState) : (s.setCState c).dispLog = s.dispLog := rfl
@[simp] theorem State.setCState_trace (c : CState) : (s.setCState c).trace = s.trace := rfl
@[simp] theorem State.setCState_bench (c : CState) : (s.setCState c).bench = s.bench := rfl

/-! ### `setDispLog` -/

@[simp] theorem State.setDispLog_cfg (l : List DispEvent) : (s.setDispLog l).cfg = s.cfg := rfl
@[simp] theorem State.setDispLog_pa (l : List DispEvent) : (s.setDispLog l).pa = s.pa := rfl
@[simp] theorem State.setDispLog_gt (l : List DispEvent) : (s.setDispLog l).gt = s.gt := rfl
@[simp] theorem State.setDispLog_preCnt (l : List DispEvent) : (s.setDispLog l).preCnt = s.preCnt := rfl
@[simp] theorem State.setDispLog_ovfTally (l : List DispEvent) : (s.setDispLog l).ovfTally = s.ovfTally := rfl
@[simp] theorem State.setDispLog_gsRemain (l : List DispEvent) : (s.setDispLog l).gsRemain = s.gsRemain := rfl
@[simp] theorem State.setDispLog_gsState (l : List DispEvent) : (s.setDispLog l).gsState = s.gsState := rfl
@[simp] theorem State.setDispLog_dataReady (l : List DispEvent) : (s.setDispLog l).dataReady = s.dataReady := rfl
@[simp] theorem State.setDispLog_freq (l : List DispEvent) : (s.setDispLog l).freq = s.freq := rfl
@[simp] theorem State.setDispLog_cState (l : List DispEvent) : (s.setDispLog l).cState = s.cState := rfl
@[simp] theorem State.setDispLog_dispLog (l : List DispEvent) : (s.setDispLog l).dispLog = l := rfl
@[simp] theorem State.setDispLog_trace (l : List DispEvent) : (s.setDispLog l).trace = s.trace := rfl
@[simp] theorem State.setDispLog_bench (l : List DispEvent) : (s.setDispLog l).bench = s.bench := rfl

/-! ### `setTrace` -/

@[simp] theorem State.setTrace_cfg (bs : List Byte) : (s.setTrace bs).cfg = s.cfg := rfl
@[simp] theorem State.setTrace_pa (bs : List Byte) : (s.setTrace bs).pa = s.pa := rfl
@[simp] theorem State.setTrace_gt (bs : List Byte) : (s.setTrace bs).gt = s.gt := rfl
@[simp] theorem State.setTrace_preCnt (bs : List Byte) : (s.setTrace bs).preCnt = s.preCnt := rfl
@[simp] theorem State.setTrace_ovfTally (bs : List Byte) : (s.setTrace bs).ovfTally = s.ovfTally := rfl
@[simp] theorem State.setTrace_gsRemain (bs : List Byte) : (s.setTrace bs).gsRemain = s.gsRemain := rfl
@[simp] theorem State.setTrace_gsState (bs : List Byte) : (s.setTrace bs).gsState = s.gsState := rfl
@[simp] theorem State.setTrace_dataReady (bs : List Byte) : (s.setTrace bs).dataReady = s.dataReady := rfl
@[simp] theorem State.setTrace_freq (bs : List Byte) : (s.setTrace bs).freq = s.freq := rfl
@[simp] theorem State.setTrace_cState (bs : List Byte) : (s.setTrace bs).cState = s.cState := rfl
@[simp] theorem State.setTrace_dispLog (bs : List Byte) : (s.setTrace bs).dispLog = s.dispLog := rfl
@[simp] theorem State.setTrace_trace (bs : List Byte) : (s.setTrace bs).trace = bs := rfl
@[simp] theorem State.setTrace_bench (bs : List Byte) : (s.setTrace bs).bench = s.bench := rfl

/-! ### `setBench` -/

@[simp] theorem State.setBench_cfg (p : Bench) : (s.setBench p).cfg = s.cfg := rfl
@[simp] theorem State.setBench_pa (p : Bench) : (s.setBench p).pa = s.pa := rfl
@[simp] theorem State.setBench_gt (p : Bench) : (s.setBench p).gt = s.gt := rfl
@[simp] theorem State.setBench_preCnt (p : Bench) : (s.setBench p).preCnt = s.preCnt := rfl
@[simp] theorem State.setBench_ovfTally (p : Bench) : (s.setBench p).ovfTally = s.ovfTally := rfl
@[simp] theorem State.setBench_gsRemain (p : Bench) : (s.setBench p).gsRemain = s.gsRemain := rfl
@[simp] theorem State.setBench_gsState (p : Bench) : (s.setBench p).gsState = s.gsState := rfl
@[simp] theorem State.setBench_dataReady (p : Bench) : (s.setBench p).dataReady = s.dataReady := rfl
@[simp] theorem State.setBench_freq (p : Bench) : (s.setBench p).freq = s.freq := rfl
@[simp] theorem State.setBench_cState (p : Bench) : (s.setBench p).cState = s.cState := rfl
@[simp] theorem State.setBench_dispLog (p : Bench) : (s.setBench p).dispLog = s.dispLog := rfl
@[simp] theorem State.setBench_trace (p : Bench) : (s.setBench p).trace = s.trace := rfl
@[simp] theorem State.setBench_bench (p : Bench) : (s.setBench p).bench = p := rfl

end Sys2Proof.Machine
end

