-- ==== Sys2Proof/Laws/Ops.lean ====
section
/-! SUPPORT. For each shared operation, one lemma that says what it can do. Proofs cite these and
do not unfold the operation. -/

namespace Sys2Proof.Machine

/-! ### Arithmetic -/

theorem addMod_lt (n a b : Nat) : addMod n a b < 2 ^ n :=
  Nat.mod_lt _ (Nat.two_pow_pos n)

theorem subMod_lt (n a b : Nat) : subMod n a b < 2 ^ n :=
  Nat.mod_lt _ (Nat.two_pow_pos n)

/-- A decrement that does not wrap. -/
theorem subMod_one_of_pos {n a : Nat} (hpos : 1 ≤ a) (hlt : a < 2 ^ n) : subMod n a 1 = a - 1 := by
  have h : a + (2 ^ n - 1) = (a - 1) + 2 ^ n := by omega
  rw [subMod, h, Nat.add_mod_right, Nat.mod_eq_of_lt (by omega)]

theorem concatBits_lt {n m a b : Nat} (ha : a < 2 ^ m) (hb : b < 2 ^ n) :
    concatBits n a b < 2 ^ (n + m) := by
  have h : (a + 1) * 2 ^ n ≤ 2 ^ m * 2 ^ n := Nat.mul_le_mul_right _ ha
  rw [concatBits, Nat.pow_add, Nat.mul_comm (2 ^ n)]
  rw [Nat.add_mul] at h
  omega

/-! ### Counting units -/

@[simp] theorem State.unit_pa (s : State) : s.unit .pa = s.pa := rfl
@[simp] theorem State.unit_gt (s : State) : s.unit .gt = s.gt := rfl
@[simp] theorem State.setUnit_pa (s : State) (u : CountUnit) : s.setUnit .pa u = s.setPa u := rfl
@[simp] theorem State.setUnit_gt (s : State) (u : CountUnit) : s.setUnit .gt u = s.setGt u := rfl
@[simp] theorem State.unitWidth_pa (s : State) : s.unitWidth .pa = s.cfg.w1 := rfl
@[simp] theorem State.unitWidth_gt (s : State) : s.unitWidth .gt = s.cfg.wg := rfl

/-- A count stays in the register. -/
theorem CountUnit.count_cnt_lt {w : Nat} {u : CountUnit} (h : u.cnt < 2 ^ w) :
    (u.count w).cnt < 2 ^ w := by
  have hw := Nat.two_pow_pos w
  unfold CountUnit.count
  split
  · exact hw
  · show u.cnt + 1 < 2 ^ w
    omega

/-- A count leaves three of the four control bits alone. -/
theorem CountUnit.count_controls (w : Nat) (u : CountUnit) :
    (u.count w).en = u.en ∧ (u.count w).cs = u.cs ∧ (u.count w).ovie = u.ovie := by
  unfold CountUnit.count
  split <;> exact ⟨rfl, rfl, rfl⟩

/-- One unit after one event of a source. -/
def CountUnit.clocked (src : ClockSource) (w : Nat) (u : CountUnit) : CountUnit :=
  if u.en = true ∧ u.cs = src then u.count w else u

/-- Everything `clockUnits` can do: each unit is clocked by itself, nothing else changes. -/
theorem clockUnits_eq (src : ClockSource) (s : State) :
    clockUnits src s =
      { s with pa := s.pa.clocked src s.cfg.w1, gt := s.gt.clocked src s.cfg.wg } := by
  unfold clockUnits clockUnit CountUnit.clocked count
  by_cases hp : s.pa.en = true ∧ s.pa.cs = src <;> by_cases hg : s.gt.en = true ∧ s.gt.cs = src <;>
    simp [hp, hg, State.setPa, State.setGt]

/-! ### Interrupts and output -/

/-- Everything `takeInterrupt` can do: the handler's effect from the state with the pending bit
cleared. -/
theorem takeInterrupt_eq (id : UnitId) (handler : State → State) (s : State) :
    takeInterrupt id handler s = handler (s.setUnit id { s.unit id with ovf := false }) := rfl

@[simp] theorem emit_dispLog (e : DispEvent) (s : State) : (emit e s).dispLog = s.dispLog ++ [e] := rfl

/-! ### Outcomes -/

/-- `configured` answers a next state exactly in a valid configuration. -/
theorem configured_next {s t : State} {r : Result} :
    configured s r = .next t ↔ s.cfg.Valid ∧ r = .next t := by
  unfold configured
  split
  · next h => exact ⟨fun hr => ⟨h, hr⟩, fun hr => hr.2⟩
  · next h => exact ⟨fun hr => (nomatch hr), fun hr => absurd hr.1 h⟩

theorem configured_of_valid {s : State} {r : Result} (h : s.cfg.Valid) : configured s r = r :=
  if_pos h

/-- `whenEnabled` answers a next state exactly where it is enabled. -/
theorem whenEnabled_next {e : Bool} {f : Fault} {r : Result} {t : State} :
    whenEnabled e f r = .next t ↔ e = true ∧ r = .next t := by
  unfold whenEnabled
  split <;> simp_all

/-- A step that always answers, repeated. -/
theorem repeatStep_of_total {f : State → Result} {g : State → State} {p : State → Prop}
    (hf : ∀ s, p s → f s = .next (g s)) (hp : ∀ s, p s → p (g s)) :
    ∀ (k : Nat) (s : State), p s → repeatStep k f s = .next (g^[k] s)
  | 0, _, _ => rfl
  | k + 1, s, hs => by
    have ih := repeatStep_of_total hf hp k (g s) (hp s hs)
    simpa [repeatStep, hf s hs, Function.iterate_succ] using ih

/-- A repeat item answers a next state exactly when its count is not zero and the run does. -/
theorem repeated_next {n : Count24} {f : State → Result} {s t : State} :
    repeated n f s = .next t ↔ n ≠ 0 ∧ repeatStep n.toNat f s = .next t := by
  unfold repeated
  split <;> simp_all

/-! ### Fetch and step -/

/-- Everything `fetch` can do when it answers. -/
theorem fetch_next {s t : State} {i : Instr} (h : fetch s = .next (i, t)) :
    (∃ c, s.bench.request = some c ∧ decode c = .ok i ∧
      t = s.setBench { s.bench with request := none }) ∨
    (s.bench.request = none ∧ traceError s.trace = none ∧
      ∃ rest, decodeItem s.trace = .ok (i, rest) ∧ t = s.setTrace rest) := by
  unfold fetch at h
  cases hr : s.bench.request with
  | some c =>
    rw [hr] at h
    cases hd : decode c with
    | ok j =>
      simp only [fetchRequest, hd, Host.Outcome.next.injEq, Prod.mk.injEq] at h
      exact .inl ⟨c, rfl, by rw [hd, h.1], h.2.symm⟩
    | error e => simp [fetchRequest, hd] at h
  | none =>
    rw [hr] at h
    cases ht : traceError s.trace with
    | some e => simp [fetchItem, ht] at h
    | none =>
      cases hd : decodeItem s.trace with
      | ok p =>
        simp only [fetchItem, ht, hd, Host.Outcome.next.injEq, Prod.mk.injEq] at h
        exact .inr ⟨rfl, rfl, p.2, by rw [← h.1], h.2.symm⟩
      | error e => simp [fetchItem, ht, hd] at h

/-- Everything `step` can do when it answers: run what was fetched. -/
theorem step_next {s t : State} (h : step s = .next t) :
    ∃ i u, fetch s = .next (i, u) ∧ exec i u = .next t := by
  unfold step at h
  cases hf : fetch s with
  | next p =>
    rw [hf] at h
    exact ⟨p.1, p.2, rfl, h⟩
  | fault f => simp [hf] at h
  | refused r => simp [hf] at h

/-- `take` answers exactly when `exec` does. -/
theorem take_some {st : TraceStep} {s t : State} :
    take st s = some t ↔ exec st.instr s = .next t := by
  unfold take
  cases exec st.instr s <;> simp

theorem runSteps_cons {st : TraceStep} {rest : List TraceStep} {s t : State} :
    runSteps (st :: rest) s = some t ↔ ∃ u, take st s = some u ∧ runSteps rest u = some t := by
  simp only [runSteps]
  cases take st s <;> simp

end Sys2Proof.Machine
end

