-- ==== Sys2Proof/Laws/Effects.lean ====
section
/-! SUPPORT. For each operation of the block, its effect as one update of the state, and what every
instruction that answers has in common. Proofs about an instruction start from these. -/

namespace Sys2Proof.Machine

/-! ### Hardware events -/

/-- `PULSE`: each unit is clocked from `EXT`. -/
theorem pulseStep_eq (s : State) :
    pulseStep s =
      { s with pa := s.pa.clocked .ext s.cfg.w1, gt := s.gt.clocked .ext s.cfg.wg } :=
  clockUnits_eq .ext s

/-- `CLK` on a tick: each unit is clocked from `INT`. -/
theorem clkStep_tick {s : State} (h : atTick s = true) :
    clkStep s =
      { s with
        preCnt := 0
        pa := s.pa.clocked .int s.cfg.w1
        gt := s.gt.clocked .int s.cfg.wg } := by
  rw [clkStep, if_pos h, clockUnits_eq]
  simp [advancePrescaler, h, State.setPreCnt]

/-- `CLK` between ticks: the prescaler alone. -/
theorem clkStep_no_tick {s : State} (h : atTick s = false) :
    clkStep s = { s with preCnt := s.preCnt + 1 } := by
  simp [clkStep, advancePrescaler, h, State.setPreCnt]

/-! ### Interrupt domain -/

theorem svcPaStep_eq (s : State) :
    svcPaStep s =
      { s with pa := { s.pa with ovf := false }, ovfTally := addMod s.cfg.w2 s.ovfTally 1 } := rfl

theorem gsStepLastInterval_eq (s : State) :
    gsStepLastInterval s =
      { s with
        pa := { s.pa with en := false }
        gt := { s.gt with en := false }
        dataReady := true
        gsState := .complete } := rfl

/-- `GS_STEP` in `COUNTING`: the last decrement loads the preload, any other only decrements. -/
theorem gsStepCounting_cases (s : State) :
    (subMod s.cfg.wb s.gsRemain 1 = 0 ∧ gsStepCounting s =
      { s with gsRemain := 0, gt := { s.gt with cnt := s.cfg.gatePreload }, gsState := .lastInterval }) ∨
    (subMod s.cfg.wb s.gsRemain 1 ≠ 0 ∧ gsStepCounting s =
      { s with gsRemain := subMod s.cfg.wb s.gsRemain 1 }) := by
  by_cases h : subMod s.cfg.wb s.gsRemain 1 = 0
  · refine .inl ⟨h, ?_⟩
    simp only [gsStepCounting, h, if_true]
    rfl
  · refine .inr ⟨h, ?_⟩
    simp only [gsStepCounting, h, if_false]
    rfl

/-- Everything `SVC_GT` can do, by the state of the sequencer. -/
theorem svcGtStep_cases (s : State) :
    (s.gsState = .counting ∧
      svcGtStep s = gsStepCounting (s.setGt { s.gt with ovf := false })) ∨
    (s.gsState = .lastInterval ∧
      svcGtStep s = gsStepLastInterval (s.setGt { s.gt with ovf := false })) ∨
    (s.gsState = .complete ∧ svcGtStep s = s.setGt { s.gt with ovf := false }) := by
  have e : svcGtStep s = gsStep (s.setGt { s.gt with ovf := false }) := rfl
  rw [e, gsStep]
  cases h : s.gsState <;> simp [h, gsStepComplete]

/-! ### Main loop -/

theorem cycleRestart_eq (s : State) :
    cycleRestart s =
      { s with
        ovfTally := 0
        gsState := .counting
        gsRemain := s.cfg.gateBudget
        pa := ⟨0, true, .ext, true, false⟩
        gt := ⟨0, true, .int, true, false⟩
        preCnt := 0
        dataReady := false } := rfl

theorem mainRestart_eq (s : State) : mainRestart s = { cycleRestart s with cState := .poll } := rfl

theorem mainLatch_eq (s : State) :
    mainLatch s =
      { s with
        dataReady := false
        freq := s.ovfTally * 2 ^ s.cfg.w1 + s.pa.cnt
        cState := .clear } := rfl

theorem mainClear_eq (s : State) :
    mainClear s =
      { s with dispLog := s.dispLog ++ [.clear s.cfg.displayLine], cState := .write } := rfl

theorem mainWrite_eq (s : State) :
    mainWrite s =
      { s with dispLog := s.dispLog ++ [.write (decFormat s.freq)], cState := .restart } := rfl

/-! ### The configuration is fixed -/

@[simp] theorem clkStep_cfg (s : State) : (clkStep s).cfg = s.cfg := by
  cases h : atTick s
  · rw [clkStep_no_tick h]
  · rw [clkStep_tick h]

@[simp] theorem pulseStep_cfg (s : State) : (pulseStep s).cfg = s.cfg := by rw [pulseStep_eq]

@[simp] theorem gsStepCounting_cfg (s : State) : (gsStepCounting s).cfg = s.cfg := by
  obtain ⟨_, e⟩ | ⟨_, e⟩ := gsStepCounting_cases s <;> rw [e]

@[simp] theorem gsStep_cfg (s : State) : (gsStep s).cfg = s.cfg := by
  unfold gsStep
  cases s.gsState with
  | counting => exact gsStepCounting_cfg s
  | lastInterval => rfl
  | complete => rfl

@[simp] theorem mainStep_cfg (s : State) : (mainStep s).cfg = s.cfg := by
  unfold mainStep mainPoll
  cases s.cState with
  | poll => dsimp only; split <;> rfl
  | boot | latch | clear | write | restart => rfl

/-! ### Instructions -/

/-- Every instruction answers only in a valid configuration. -/
theorem exec_next_valid {i : Instr} {s t : State} (h : exec i s = .next t) : s.cfg.Valid := by
  cases i <;> exact (configured_next.mp h).1

end Sys2Proof.Machine
end

