-- ==== Sys2Proof/Laws/PerInstr.lean ====
section
/-! SUPPORT. Facts about every instruction as syntax, one lemma per constructor. -/

namespace Sys2Proof.Laws.TableRow

/-- The code of the instruction has the width its row of spec/opcode_table.json gives, and its
masked bits are the row's pattern. -/
def Statement (i : Instr) : Prop :=
  (encode i).width = i.row.width ∧ (encode i).value &&& i.row.mask = i.row.pattern

/-- A format R item is four bytes, and its low byte is the first. -/
theorem repeatItem_row (st : TraceStep) (n : Count24) :
    (repeatItem st n).width = 32 ∧
      (repeatItem st n).value &&& 0xFF = (packByte true 0 (opOfStep st)).toNat := by
  refine ⟨rfl, ?_⟩
  have hb : (packByte true 0 (opOfStep st)).toNat < 2 ^ 8 := (packByte true 0 (opOfStep st)).isLt
  show _ &&& (2 ^ 8 - 1) = _
  rw [Nat.and_two_pow_sub_one_eq_mod]
  simp only [repeatItem, Code.value, List.foldr]
  omega

theorem clk : Statement .clk := by unfold Statement; decide
theorem pulse : Statement .pulse := by unfold Statement; decide
theorem svcPa : Statement .svcPa := by unfold Statement; decide
theorem svcGt : Statement .svcGt := by unfold Statement; decide
theorem main : Statement .main := by unfold Statement; decide
theorem reset : Statement .reset := by unfold Statement; decide
theorem clkRep (n : Count24) : Statement (.clkRep n) := repeatItem_row .clk n
theorem pulseRep (n : Count24) : Statement (.pulseRep n) := repeatItem_row .pulse n
theorem mainRep (n : Count24) : Statement (.mainRep n) := repeatItem_row .main n
theorem paStart : Statement .paStart := by unfold Statement; decide
theorem paStop : Statement .paStop := by unfold Statement; decide
theorem paRead : Statement .paRead := by unfold Statement; decide
theorem oeReset : Statement .oeReset := by unfold Statement; decide
theorem oeInc : Statement .oeInc := by unfold Statement; decide
theorem gtStart : Statement .gtStart := by unfold Statement; decide
theorem gtStop : Statement .gtStop := by unfold Statement; decide
theorem gtLoad : Statement .gtLoad := by unfold Statement; decide
theorem gsReset : Statement .gsReset := by unfold Statement; decide
theorem gsStep : Statement .gsStep := by unfold Statement; decide
theorem cycleRestart : Statement .cycleRestart := by unfold Statement; decide
theorem freqCombine : Statement .freqCombine := by unfold Statement; decide
theorem decFormat : Statement .decFormat := by unfold Statement; decide
theorem dispClear : Statement .dispClear := by unfold Statement; decide
theorem dispWrite : Statement .dispWrite := by unfold Statement; decide
theorem gsStepCounting : Statement .gsStepCounting := by unfold Statement; decide
theorem gsStepLastInterval : Statement .gsStepLastInterval := by unfold Statement; decide
theorem gsStepComplete : Statement .gsStepComplete := by unfold Statement; decide
theorem mainBoot : Statement .mainBoot := by unfold Statement; decide
theorem mainPoll : Statement .mainPoll := by unfold Statement; decide
theorem mainLatch : Statement .mainLatch := by unfold Statement; decide
theorem mainClear : Statement .mainClear := by unfold Statement; decide
theorem mainWrite : Statement .mainWrite := by unfold Statement; decide
theorem mainRestart : Statement .mainRestart := by unfold Statement; decide

end Sys2Proof.Laws.TableRow
end

