-- ==== Sys2Proof/Tests/Slice0.lean ====
section
/-! SUPPORT. Tests: the checks of WellFormed and of a configuration on terms they refuse, words
written out from the spec's encodings, and one-step vectors of 95_test_vectors.md (named `test_V…`
after the vector they are). Expected values are the spec's. At the end, for each statement of
Certificates/Slice0/Obligations.lean that has hypotheses, states and operands that meet them
together (`witness_…`), one for each clause. -/

namespace Sys2Proof.Machine.Tests

/-! ### Small states -/

/-- `RST` in TOY (95_test_vectors.md). -/
def toyReset : State := State.resetOf Config.toy

/-- `RUN0(TOY)`: the start of the first gate. -/
def toyRun : State := mainRestart toyReset

/-- `RUN0(DEFAULT)`. -/
def defaultRun : State := mainRestart State.reset

/-- A counting unit from its register and the bits of its control register (10_state.md R26). -/
def unitOf (cnt : Nat) (ctl : BitVec 4) : CountUnit :=
  ⟨cnt, ctl.getLsbD 0, if ctl.getLsbD 1 then .ext else .int, ctl.getLsbD 2, ctl.getLsbD 3⟩

/-- What an instruction leaves in some fields, `none` where it gives no next state. -/
def after {α : Type} (i : Instr) (s : State) (f : State → α) : Option α :=
  match exec i s with
  | .next t => some (f t)
  | .fault _ => none
  | .refused _ => none

/-- The fault of an instruction, if it ends in one. -/
def faultOf (i : Instr) (s : State) : Option Fault :=
  match exec i s with
  | .next _ => none
  | .fault f => some f
  | .refused _ => none

/-- The refusal of an outcome, if it is one. -/
def refusalOf (r : Result) : Option Refusal :=
  match r with
  | .next _ => none
  | .fault _ => none
  | .refused r => some r

/-! ### WellFormed and configurations: terms each check refuses -/

theorem test_clk_zero_count_ill_formed : ¬(Instr.clkRep 0).WellFormed := by decide
theorem test_pulse_zero_count_ill_formed : ¬(Instr.pulseRep 0).WellFormed := by decide
theorem test_main_zero_count_ill_formed : ¬(Instr.mainRep 0).WellFormed := by decide
theorem test_largest_count_well_formed : (Instr.pulseRep 16777215).WellFormed := by decide

theorem test_w1_zero_invalid : ¬(Config.Valid { Config.toy with w1 := 0 }) := by decide
theorem test_w2_zero_invalid : ¬(Config.Valid { Config.toy with w2 := 0 }) := by decide
theorem test_wg_zero_invalid : ¬(Config.Valid { Config.toy with wg := 0 }) := by decide
theorem test_wb_zero_invalid : ¬(Config.Valid { Config.toy with wb := 0 }) := by decide
theorem test_clkHz_zero_invalid : ¬(Config.Valid { Config.toy with clkHz := 0 }) := by decide
theorem test_prescale_zero_invalid : ¬(Config.Valid { Config.toy with prescale := 0 }) := by decide

/-- V5: `GATE_BUDGET = 0`. -/
theorem test_V5_budget_zero_invalid :
    ¬(Config.Valid { Config.default with wg := 16, clkHz := 8000000, prescale := 256 }) := by decide

/-- V6: `GATE_BUDGET > 2^WB - 1`. -/
theorem test_V6_budget_too_large_invalid :
    ¬(Config.Valid { Config.default with prescale := 64 }) := by decide

/-- V7: the same with `WB = 11`. -/
theorem test_V7_wider_counter_valid :
    Config.Valid { Config.default with prescale := 64, wb := 11 } := by decide

/-- V4: a gate that is a whole number of overflow periods. -/
theorem test_V4_whole_periods :
    let c := { Config.default with clkHz := 16777216, prescale := 256 }
    (c.gateTicks, c.gateBudget, c.gateResidualTicks, c.gatePreload) = (65536, 255, 256, 0) := by decide

theorem test_invalid_configuration_refused :
    refusalOf (exec .clk { toyReset with cfg := { Config.toy with w1 := 0 } }) =
      some .invalidConfig := by decide

/-! ### Words from the spec's encodings (30_encoding.md R82 to R87) -/

theorem test_V90_clk : decodeTableWord 8 0b00000000 = some .clk := by decide
theorem test_V91_pulse : decodeTableWord 8 0b00000001 = some .pulse := by decide
theorem test_V92_svcPa : decodeTableWord 8 0b00000010 = some .svcPa := by decide
theorem test_V93_svcGt : decodeTableWord 8 0b00000011 = some .svcGt := by decide
theorem test_V94_main : decodeTableWord 8 0b00000100 = some .main := by decide
theorem test_V95_reset : decodeTableWord 8 0b00001111 = some .reset := by decide
theorem test_V97_clkRep : decode (.item [0x80, 0x00, 0x04, 0x00]) = .ok (.clkRep 1024) := by decide
theorem test_V99_clkRep : decodeTableWord 32 0x012C0080 = some (.clkRep 76800) := by decide
theorem test_V100_pulseRep : decode (.item [0x81, 0x70, 0x11, 0x01]) = .ok (.pulseRep 70000) := by decide
theorem test_V101_pulseRep : decodeTableWord 32 0xFFFFFF81 = some (.pulseRep 16777215) := by decide
theorem test_V102_mainRep : decode (.item [0x84, 0x05, 0x00, 0x00]) = .ok (.mainRep 5) := by decide
theorem test_V103_zero_count : decodeTableWord 32 0x00000080 = none := by decide
theorem test_V104_svcPa_not_repeatable :
    decode (.item [0x82, 0x01, 0x00, 0x00]) = .error (.notRepeatable 0x82) := by decide
theorem test_V104_reset_not_repeatable :
    decode (.item [0x8F, 0x01, 0x00, 0x00]) = .error (.notRepeatable 0x8F) := by decide
theorem test_V105_reserved_op : decode (.item [0x05]) = .error (.reservedOp 0x05) := by decide
theorem test_V105_reserved_op_last : decode (.item [0x0E]) = .error (.reservedOp 0x0E) := by decide
theorem test_V106_sub_code_in_trace : decode (.item [0x10]) = .error (.reservedClass 0x10) := by decide
theorem test_V107_truncated : decode (.item [0x80, 0x05, 0x00]) = .error (.truncated 0x80) := by decide

theorem test_sub_codes :
    [0x10, 0x11, 0x12, 0x13, 0x14, 0x15, 0x16, 0x17, 0x18, 0x19, 0x1A, 0x1B, 0x1C, 0x1D, 0x1E,
      0x1F].map (decodeTableWord 8) =
    [some .paStart, some .paStop, some .paRead, some .oeReset, some .oeInc, some .gtStart,
      some .gtStop, some .gtLoad, some .gsReset, some .gsStep, some .cycleRestart, some .freqCombine,
      some .decFormat, some .dispClear, some .dispWrite, none] := by decide

theorem test_gs_selectors : [0, 1, 2, 3].map (decodeTableWord 2) =
    [some .gsStepCounting, some .gsStepLastInterval, some .gsStepComplete, none] := by decide

theorem test_c_selectors : [0, 1, 2, 3, 4, 5, 6, 7].map (decodeTableWord 3) =
    [some .mainBoot, some .mainPoll, some .mainLatch, some .mainClear, some .mainWrite,
      some .mainRestart, none, none] := by decide

/-- The first items of program P1 of 95_test_vectors.md, read one after another. -/
theorem test_P1_first_items :
    decodeItem [0x80, 0x03, 0x00, 0x00, 0x01, 0x80, 0x04] = .ok (.clkRep 3, [0x01, 0x80, 0x04]) := by
  decide

/-! ### Fetch and step -/

theorem test_placed_clk_runs :
    (match step (State.reset.withFetchWord 8 0x00) with
      | .next t => t.preCnt
      | .fault _ => 0
      | .refused _ => 0) = 1 := by decide

theorem test_placed_row_runs_alone :
    (match step (State.reset.withFetchWord 8 0x10) with
      | .next t => (t.pa.ctl.toNat, t.bench.request)
      | .fault _ => (0, none)
      | .refused _ => (0, none)) = (0x7, none) := by decide

/-- T1: nothing is pending after reset. -/
theorem test_T1_svcGt_after_reset :
    (match step (State.reset.withFetchWord 8 0x03) with
      | .next _ => none
      | .fault f => some f
      | .refused _ => none) = some .svcGtNotEnabled := by decide

/-- A trace with an illegal item is refused whole at the item's offset. -/
theorem test_ill_formed_trace_refused :
    refusalOf (step { toyReset with trace := [0x00, 0x80, 0x05, 0x00, 0x00, 0x05] }) =
      some (.illFormedTrace 5 (.reservedOp 0x05)) := by decide

/-! ### Pulse Accumulator -/

theorem test_V8_stopped_unit_ignores_pulse :
    after .pulse { toyRun with pa := unitOf 5 0x6 } (fun t => (t.pa.cnt, t.pa.ctl)) = some (5, 0x6) := by
  decide

theorem test_V10_pulse_wraps :
    after .pulse { toyRun with pa := unitOf 15 0x7 } (fun t => (t.pa.cnt, t.pa.ctl)) = some (0, 0xF) := by
  decide

theorem test_V13_masked_event_latched :
    after (.pulseRep 1) { toyRun with pa := unitOf 15 0x3 } (fun t => (t.pa.cnt, t.pa.ctl)) =
      some (0, 0xB) := by decide

/-- P11 line 2: two wraps, one pending bit. -/
theorem test_P11_wrap_lost :
    after (.pulseRep 35) toyRun (fun t => (t.pa.cnt, t.pa.ctl, t.ovfTally)) = some (3, 0xF, 0) := by
  decide

theorem test_V15_paStart :
    after .paStart { toyRun with pa := unitOf 9 0xE } (fun t => (t.pa.cnt, t.pa.ctl)) = some (0, 0x7) := by
  decide

theorem test_V17_paStop_keeps_event :
    after .paStop { toyRun with pa := unitOf 3 0xF } (fun t => (t.pa.cnt, t.pa.ctl)) = some (3, 0xE) := by
  decide

theorem test_V18_paRead :
    after .paRead { defaultRun with pa := unitOf 4464 0x6 } (fun t => (t.bench.num, t.pa.cnt)) =
      some (4464, 4464) := by decide

/-! ### Overflow Extender -/

theorem test_V19_oeReset :
    after .oeReset { toyRun with ovfTally := 3 } (fun t => t.ovfTally) = some 0 := by decide

theorem test_V21_oeInc_wraps :
    after .oeInc { defaultRun with ovfTally := 255 } (fun t => t.ovfTally) = some 0 := by decide

theorem test_V24_svcPa_while_stopped :
    after .svcPa { toyRun with pa := unitOf 0 0xE } (fun t => (t.pa.ctl, t.ovfTally)) = some (0x6, 1) := by
  decide

theorem test_V26_svcPa_masked :
    faultOf .svcPa { toyRun with pa := unitOf 0 0xB } = some .svcPaNotEnabled := by decide

/-! ### Gate Timer -/

theorem test_V29_clk_tick_wraps :
    after .clk { toyRun with preCnt := 1, gt := unitOf 3 0x5 } (fun t => (t.preCnt, t.gt.cnt, t.gt.ctl)) =
      some (0, 0, 0xD) := by decide

theorem test_V30c_clk_no_tick :
    after .clk { defaultRun with preCnt := 1022, gt := unitOf 255 0x5 }
      (fun t => (t.preCnt, t.gt.cnt, t.gt.ctl)) = some (1023, 255, 0x5) := by decide

/-- P6 line 2: overflows after `CLK` 8 and 16, one pending bit. -/
theorem test_P6_overflow_lost :
    after (.clkRep 16) toyRun (fun t => (t.gt.cnt, t.gt.ctl, t.gsRemain)) = some (0, 0xD, 2) := by decide

theorem test_V30e_gtStart :
    after .gtStart { toyRun with preCnt := 1, gt := unitOf 2 0xC } (fun t => (t.preCnt, t.gt.cnt, t.gt.ctl)) =
      some (0, 0, 0x5) := by decide

theorem test_V30f_gtStop :
    after .gtStop { toyRun with preCnt := 1 } (fun t => (t.preCnt, t.gt.cnt, t.gt.ctl)) =
      some (1, 0, 0x4) := by decide

theorem test_V30g_gtLoad :
    after .gtLoad defaultRun (fun t => (t.gt.cnt, t.gt.ctl)) = some (181, 0x5) := by decide

/-! ### Gate Sequencer -/

theorem test_V31_gsReset :
    after .gsReset { defaultRun with gsRemain := 0, gsState := .complete }
      (fun t => (t.gsRemain, t.gsState)) = some (76, .counting) := by decide

theorem test_V33_svcGt_preload :
    after .svcGt { defaultRun with gt := unitOf 0 0xD, gsRemain := 1 }
      (fun t => (t.gt.cnt, t.gt.ctl, t.gsRemain, t.flags)) = some (181, 0x5, 0, 0x2) := by decide

theorem test_V37_svcGt_stop_keeps_event :
    after .svcGt { toyRun with gt := unitOf 0 0xD, pa := unitOf 5 0xF, gsRemain := 0, gsState := .lastInterval }
      (fun t => (t.gt.ctl, t.pa.ctl, t.flags)) = some (0x4, 0xE, 0x5) := by decide

theorem test_V40_remaining_wraps :
    after .gsStep { toyRun with gsRemain := 0 } (fun t => (t.gsRemain, t.gsState)) =
      some (3, .counting) := by decide

theorem test_V34_gsStepCounting :
    after .gsStepCounting toyRun (fun t => (t.gsRemain, t.flags)) = some (1, 0x0) := by decide

theorem test_V36_gsStepLastInterval :
    after .gsStepLastInterval { toyRun with pa := unitOf 5 0x7, gsRemain := 0, gsState := .lastInterval }
      (fun t => (t.gt.ctl, t.pa.ctl, t.pa.cnt, t.flags)) = some (0x4, 0x6, 5, 0x5) := by decide

theorem test_V38_gsStepComplete :
    after .gsStepComplete { toyRun with gt := unitOf 0 0x4, gsState := .complete, dataReady := true }
      (fun t => (t.gt.ctl, t.flags)) = some (0x4, 0x5) := by decide

/-! ### Measurement Controller -/

theorem test_V41_mainBoot : after .mainBoot toyReset (fun t => t.cState) = some .restart := by decide

theorem test_V44_mainPoll :
    after .mainPoll { toyRun with pa := unitOf 0 0x6, gt := unitOf 0 0x4, gsState := .complete, dataReady := true }
      (fun t => (t.cState, t.flags)) = some (.latch, 0x5) := by decide

theorem test_V45_mainLatch :
    after .mainLatch { defaultRun with
      pa := unitOf 4464 0x6, gt := unitOf 0 0x4, ovfTally := 1, gsState := .complete,
      dataReady := true, cState := .latch } (fun t => (t.freq, t.flags, t.cState)) =
      some (70000, 0x4, .clear) := by decide

theorem test_V46_mainClear :
    after .mainClear { toyRun with cState := .clear, dispLog := [.write [0x30]] }
      (fun t => (t.dispLog.length, t.cState)) = some (2, .write) := by decide

theorem test_V47_mainWrite :
    after .mainWrite { defaultRun with cState := .write, freq := 70000 } (fun t => (t.dispLog, t.cState)) =
      some ([.write [0x37, 0x30, 0x30, 0x30, 0x30]], .restart) := by decide

theorem test_V42_mainRestart :
    after .mainRestart { toyReset with cState := .restart }
      (fun t => (t.pa.ctl, t.gt.ctl, t.gsRemain, t.cState)) = some (0x7, 0x5, 2, .poll) := by decide

theorem test_V48_main_waits :
    faultOf .main { toyRun with gt := unitOf 0 0xD } = some .mainNotEnabled := by decide

theorem test_V50_main_masked_event :
    after .main { toyRun with pa := unitOf 0 0xB } (fun t => t.cState) = some .poll := by decide

/-- `REPORT` (30_encoding.md R89) with the values of program P2. -/
theorem test_P2_report :
    after (.mainRep 5) { toyRun with
      pa := unitOf 3 0x6, gt := unitOf 0 0x4, ovfTally := 1, gsRemain := 0, gsState := .complete,
      dataReady := true } (fun t => (t.freq, t.dispLog.getLast?, t.pa.ctl)) =
      some (19, some (.write [0x31, 0x39]), 0x7) := by decide

theorem test_cycleRestart_again :
    after .cycleRestart { toyRun with ovfTally := 3, preCnt := 1, gsState := .complete }
      (fun t => (t.ovfTally, t.preCnt, t.gsState)) = some (0, 0, .counting) := by decide

theorem test_V54_freqCombine :
    after .freqCombine { defaultRun with ovfTally := 1, pa := unitOf 4464 0x6 } (fun t => t.bench.num) =
      some 70000 := by decide

theorem test_V55_freqCombine_largest :
    after .freqCombine { defaultRun with ovfTally := 255, pa := unitOf 65535 0x6 }
      (fun t => t.bench.num) = some 16777215 := by decide

theorem test_V62_decFormat :
    after .decFormat { toyRun with bench := { Bench.idle with num := 1000 } } (fun t => t.bench.text) =
      some [0x31, 0x30, 0x30, 0x30] := by decide

theorem test_V67_decFormat_longest :
    after .decFormat { defaultRun with bench := { Bench.idle with num := 16777215 } }
      (fun t => t.bench.text) = some [0x31, 0x36, 0x37, 0x37, 0x37, 0x32, 0x31, 0x35] := by decide

theorem test_dispClear : after .dispClear toyRun (fun t => t.dispLog.length) = some 1 := by decide

theorem test_dispWrite :
    after .dispWrite { toyRun with bench := { Bench.idle with text := [0x30] } } (fun t => t.dispLog) =
      some [.write [0x30]] := by decide

/-! ### Reset -/

theorem test_V87_reset :
    after .reset { toyRun with pa := unitOf 5 0x7, gt := unitOf 0 0xD, preCnt := 1 }
      (fun t => (t.pa.cnt, t.gt.ctl, t.gsRemain, t.cState)) = some (0, 0x0, 2, .boot) := by decide

theorem test_V88_reset_default :
    after .reset { defaultRun with gsRemain := 3, freq := 7 } (fun t => (t.gsRemain, t.freq)) =
      some (76, 0) := by decide

/-! ### Witnesses: the hypotheses of the statements can be met

`toyReset` has both units stopped and `C_BOOT`; `toyRun` is the start of a gate; `toyDone` is a gate
that has closed with 19 pulses counted, all wraps tallied. -/

/-- A closed gate of TOY, the flag set (program P2 of 95_test_vectors.md). -/
def toyDone : State :=
  { toyRun with
    pa := unitOf 3 0x6, gt := unitOf 0 0x4, ovfTally := 1, gsRemain := 0, gsState := .complete
    dataReady := true }

theorem toyReset_valid : toyReset.cfg.Valid := by decide
theorem toyRun_valid : toyRun.cfg.Valid := by decide
theorem toyDone_valid : toyDone.cfg.Valid := by decide
theorem defaultRun_valid : defaultRun.cfg.Valid := by decide

/-- The idle bench's text is legal wherever a digit is. -/
theorem idle_text_legal {c : Config} (h : 1 ≤ c.maxDigits) : legalText c [0x30] :=
  ⟨Nat.le_refl 1, h, by decide⟩

theorem toyReset_inRange : toyReset.InRange where
  paCnt := by decide
  gtCnt := by decide
  preCnt := by decide
  ovfTally := by decide
  gsRemain := by decide
  freq := by decide
  dispLog := fun _ h => nomatch h
  benchNum := by decide
  benchText := idle_text_legal (by decide)

theorem toyRun_inRange : toyRun.InRange where
  paCnt := by decide
  gtCnt := by decide
  preCnt := by decide
  ovfTally := by decide
  gsRemain := by decide
  freq := by decide
  dispLog := fun _ h => nomatch h
  benchNum := by decide
  benchText := idle_text_legal (by decide)

theorem toyDone_inRange : toyDone.InRange where
  paCnt := by decide
  gtCnt := by decide
  preCnt := by decide
  ovfTally := by decide
  gsRemain := by decide
  freq := by decide
  dispLog := fun _ h => nomatch h
  benchNum := by decide
  benchText := idle_text_legal (by decide)

theorem toyRun_r46 : toyRun.R46 := by constructor <;> decide
theorem toyDone_r46 : toyDone.R46 := by constructor <;> decide
theorem toyRun_scheduled : toyRun.Scheduled := by constructor <;> decide
theorem toyDone_scheduled : toyDone.Scheduled := by constructor <;> decide

theorem toyRun_inv : toyRun.Inv :=
  ⟨toyRun_valid, rfl, toyRun_inRange, toyRun_r46, toyRun_scheduled⟩

theorem toyDone_inv : toyDone.Inv :=
  ⟨toyDone_valid, rfl, toyDone_inRange, toyDone_r46, toyDone_scheduled⟩

theorem toyRun_cycleStart : CycleStart toyRun := by constructor <;> decide

/-- The steps of a gate of TOY under a prompt schedule (`GATE_CLKS = 22`), with one pulse. -/
def promptGate : List TraceStep :=
  .pulse :: (List.replicate 8 .clk ++ [.svcGt] ++ List.replicate 8 .clk ++ [.svcGt] ++
    List.replicate 6 .clk ++ [.svcGt])

/-- The same gate with the controller's walk up to the restart. -/
def promptCycle : List TraceStep := promptGate ++ List.replicate 4 .main

theorem promptGate_runs : (runSteps promptGate toyRun).map State.gsState = some .complete := by decide
theorem promptCycle_runs : (runSteps promptCycle toyRun).map State.cState = some .restart := by decide

-- Encoding.

theorem witness_IllegalItemsRefused_reserved : ∃ why, decodeItem [0x05] = .error why := ⟨_, rfl⟩

theorem witness_IllegalItemsRefused_trace : ∃ (s : State) (is : List Instr) (b : Byte) (rest : List Byte)
    (why : DecodeError), s.bench.request = none ∧ (∀ i ∈ is, i.WellFormed ∧ i.traceItem = true) ∧
    decodeItem (b :: rest) = .error why ∧ s.trace = encodeTrace is ++ b :: rest :=
  ⟨{ toyReset with trace := [0x04, 0x80, 0x05] }, [.main], 0x80, [0x05], .truncated 0x80, rfl,
    by decide, rfl, rfl⟩

theorem witness_DecodeEncodeRoundTrip : (Instr.pulseRep 16777215).WellFormed := by decide

theorem witness_EncodeInvertsDecode : decode (.item [0x84, 0x01, 0x00, 0x00]) = .ok (.mainRep 1) := rfl

theorem witness_ItemLengthFromBitSeven_single : decodeItem [0x0F, 0x00] = .ok (.reset, [0x00]) := rfl

theorem witness_ItemLengthFromBitSeven_repeated :
    decodeItem [0x80, 0x01, 0x00, 0x00, 0x00] = .ok (.clkRep 1, [0x00]) := rfl

theorem witness_RepeatFormIsRepetition :
    repeatInstr .clk 2 = some (.clkRep 2) ∧ (2 : Count24) ≠ 0 ∧ toyRun.cfg.Valid ∧
      repeatInstr .main 0 = some (.mainRep 0) := ⟨rfl, by decide, toyRun_valid, rfl⟩

theorem witness_RepeatFormIsRepetition_bytes :
    128 ≤ (0x81 : Byte).toNat ∧
      decodeItem [0x81, 0x70, 0x11, 0x01] = .ok (.pulseRep 70000, []) := ⟨by decide, rfl⟩

theorem witness_StateRegistersSelectBehaviours :
    svcGtEnabled { toyRun with gt := unitOf 0 0xD } = true := by decide

-- The step.

theorem witness_StepRunsDecodedInstruction_item :
    let s := { toyReset with trace := [0x04, 0x00] }
    s.bench.request = none ∧ traceError s.trace = none ∧ decodeItem s.trace = .ok (.main, [0x00]) :=
  ⟨rfl, rfl, rfl⟩

theorem witness_StepRunsDecodedInstruction_request :
    let s := toyReset.withFetchWord 8 0x1E
    s.bench.request = some (.sub 0x1E) ∧ decode (.sub 0x1E) = .ok .dispWrite := ⟨rfl, rfl⟩

theorem witness_StepRunsDecodedInstruction_end :
    toyReset.bench.request = none ∧ toyReset.trace = [] := ⟨rfl, rfl⟩

theorem witness_EncodedTraceRunsItemByItem :
    let s := { toyReset with trace := [0x80, 0x01, 0x00, 0x00, 0x04] }
    s.bench.request = none ∧
      (∀ j ∈ [Instr.clkRep 1, .main], j.WellFormed ∧ j.traceItem = true) ∧
      s.trace = encodeTrace [.clkRep 1, .main] := ⟨rfl, by decide, rfl⟩

theorem witness_StepsEnabledExactlyWhen :
    ∃ s : State, s.cfg.Valid ∧ (s.pa.ovf = true ∧ s.pa.ovie = true) ∧
      (s.gt.ovf = true ∧ s.gt.ovie = true) :=
  ⟨{ toyRun with pa := unitOf 0 0xF, gt := unitOf 0 0xD }, by decide⟩

theorem witness_StepsEnabledExactlyWhen_quiet :
    ∃ s : State, s.cfg.Valid ∧ ¬(s.pa.ovf = true ∧ s.pa.ovie = true) ∧
      ¬(s.gt.ovf = true ∧ s.gt.ovie = true) := ⟨{ toyRun with pa := unitOf 0 0xB }, by decide⟩

-- Configuration and registers.

theorem witness_GateSplitIsExact_remainder :
    Config.toy.Valid ∧ ¬Config.toy.ovfPeriod ∣ Config.toy.gateTicks := by decide

theorem witness_GateSplitIsExact_whole :
    let c := { Config.toy with clkHz := 16 }
    c.Valid ∧ c.ovfPeriod ∣ c.gateTicks := by decide

theorem witness_InvalidConfigurationRefused :
    ¬({ toyReset with cfg := { Config.toy with wb := 1 } } : State).cfg.Valid := by decide

theorem witness_ConfigurationIsFixed : ∃ t, exec .paStart toyReset = .next t := ⟨_, rfl⟩

theorem witness_RegisterViews : toyDone.cfg.Valid ∧ toyDone.InRange := ⟨toyDone_valid, toyDone_inRange⟩

theorem witness_RegistersStayInRange : toyRun.InRange ∧ ∃ t, exec .gtLoad toyRun = .next t :=
  ⟨toyRun_inRange, _, rfl⟩

-- Pulse Accumulator, Overflow Extender, Gate Timer.

theorem witness_CountWrapsAndLatchesEvent : (unitOf 15 0xF).cnt < 2 ^ 4 := by decide

/-- Also the hypotheses of the statements that ask only for a valid configuration. -/
theorem witness_PulseEffect : toyRun.cfg.Valid ∧ toyRun.R46 := ⟨toyRun_valid, toyRun_r46⟩

theorem witness_PulseRunClosedForm :
    toyRun.cfg.Valid ∧ toyRun.InRange ∧ (16777215 : Count24) ≠ 0 :=
  ⟨toyRun_valid, toyRun_inRange, by decide⟩

theorem witness_SvcPaService :
    let s := { toyDone with pa := unitOf 0 0xE }
    s.cfg.Valid ∧ s.pa.ovf = true ∧ s.pa.ovie = true := by decide

theorem witness_SvcPaService_stuck :
    let s := { toyDone with pa := unitOf 0 0xB }
    s.cfg.Valid ∧ ¬(s.pa.ovf = true ∧ s.pa.ovie = true) := by decide

theorem witness_ClkEffect_tick :
    let s := { toyRun with preCnt := 1 }
    s.cfg.Valid ∧ s.preCnt = s.cfg.prescale - 1 := by decide

theorem witness_ClkEffect_tick_r46 : ({ toyRun with preCnt := 1 } : State).R46 := by
  constructor <;> decide

theorem witness_ClkEffect_no_tick : toyRun.cfg.Valid ∧ toyRun.preCnt ≠ toyRun.cfg.prescale - 1 := by
  decide

theorem witness_TicksAndOverflowsArePeriodic :
    toyRun.cfg.Valid ∧ toyRun.preCnt = 0 ∧ toyRun.gt.cnt = 0 ∧ toyRun.gt.en = true ∧
      toyRun.gt.cs = .int := by decide

theorem witness_LastIntervalLength :
    toyRun.cfg.Valid ∧ toyRun.preCnt = 0 ∧ toyRun.gt.en = true ∧ toyRun.gt.cs = .int ∧
      5 < toyRun.cfg.gateResidualTicks * toyRun.cfg.prescale := by decide

theorem witness_ClkRunClosedForm :
    toyRun.cfg.Valid ∧ toyRun.InRange ∧ (1 : Count24) ≠ 0 :=
  ⟨toyRun_valid, toyRun_inRange, by decide⟩

-- Gate Sequencer.

theorem witness_GateSequencerBehaviours_preload :
    let s := { toyRun with gsRemain := 1 }
    s.cfg.Valid ∧ s.gsState = .counting ∧ (s.gsRemain + 2 ^ s.cfg.wb - 1) % 2 ^ s.cfg.wb = 0 := by
  decide

theorem witness_GateSequencerBehaviours_counting :
    toyRun.cfg.Valid ∧ toyRun.gsState = .counting ∧
      (toyRun.gsRemain + 2 ^ toyRun.cfg.wb - 1) % 2 ^ toyRun.cfg.wb ≠ 0 := by decide

theorem witness_GateSequencerBehaviours_last :
    let s := { toyRun with gsState := .lastInterval }
    s.cfg.Valid ∧ s.gsState = .lastInterval := by decide

theorem witness_GateSequencerBehaviours_complete :
    toyDone.cfg.Valid ∧ toyDone.gsState = .complete := by decide

/-- Each clause of BehaviourRowsRunWhereSelected is met by one of two states. -/
theorem witness_BehaviourRowsRunWhereSelected :
    (toyDone.cfg.Valid ∧ toyDone.gsState ≠ .counting ∧ toyDone.gsState ≠ .lastInterval ∧
      toyDone.cState ≠ .boot ∧ toyDone.cState ≠ .latch ∧ toyDone.cState ≠ .clear ∧
      toyDone.cState ≠ .write ∧ toyDone.cState ≠ .restart) ∧
    (toyReset.cfg.Valid ∧ toyReset.gsState ≠ .complete ∧ toyReset.cState ≠ .poll) := by decide

theorem witness_SvcGtService_preload :
    let s := { toyRun with gt := unitOf 0 0xD, gsRemain := 1 }
    s.cfg.Valid ∧ s.gt.ovf = true ∧ s.gt.ovie = true ∧ s.gsState = .counting ∧
      (s.gsRemain + 2 ^ s.cfg.wb - 1) % 2 ^ s.cfg.wb = 0 := by decide

theorem witness_SvcGtService_counting :
    let s := { toyRun with gt := unitOf 0 0xD }
    s.cfg.Valid ∧ s.gt.ovf = true ∧ s.gt.ovie = true ∧ s.gsState = .counting ∧
      (s.gsRemain + 2 ^ s.cfg.wb - 1) % 2 ^ s.cfg.wb ≠ 0 := by decide

theorem witness_SvcGtService_last :
    let s := { toyRun with gt := unitOf 0 0xD, gsRemain := 0, gsState := .lastInterval }
    s.cfg.Valid ∧ s.gt.ovf = true ∧ s.gt.ovie = true ∧ s.gsState = .lastInterval := by decide

theorem witness_SvcGtService_complete :
    let s := { toyDone with gt := unitOf 0 0xC }
    s.cfg.Valid ∧ s.gt.ovf = true ∧ s.gt.ovie = true ∧ s.gsState = .complete := by decide

theorem witness_SvcGtService_stuck :
    toyRun.cfg.Valid ∧ ¬(toyRun.gt.ovf = true ∧ toyRun.gt.ovie = true) := by decide

theorem witness_GateSequencerTransitions :
    (take .svcGt { toyRun with gt := unitOf 0 0xD, gsRemain := 1 }).map State.gsState =
      some .lastInterval := by decide

-- Measurement Controller.

/-- Quiet states in each controller state meet the hypotheses of MainBehaviours. -/
theorem witness_MainBehaviours : ∀ c ∈ [CState.boot, .poll, .latch, .clear, .write, .restart],
    let s := { toyDone with cState := c }
    s.cfg.Valid ∧ ¬(s.pa.ovf = true ∧ s.pa.ovie = true) ∧ ¬(s.gt.ovf = true ∧ s.gt.ovie = true) ∧
      s.cState = c := by decide

theorem witness_BehaviourRowsRunWhereSelected_runs :
    ∀ c ∈ [CState.boot, .poll, .latch, .clear, .write, .restart],
    let s := { toyDone with cState := c }
    s.cfg.Valid ∧ s.cState = c ∧
      ¬(s.pa.ovf = true ∧ s.pa.ovie = true) ∧ ¬(s.gt.ovf = true ∧ s.gt.ovie = true) := by decide

theorem witness_BehaviourRowsRunWhereSelected_waits :
    let s := { toyDone with pa := unitOf 0 0xE, cState := .latch }
    s.cfg.Valid ∧ s.cState = .latch ∧ (s.pa.ovf = true ∧ s.pa.ovie = true) := by decide

theorem witness_ControllerTransitions :
    (take .main toyDone).map State.cState = some .latch ∧
      (take .reset toyDone).map State.cState = some .boot ∧
      (take .clk toyDone).map State.cState = some .poll ∧
      toyDone.cState = .poll ∧ toyDone.dataReady = true ∧ toyRun.dataReady = false := by decide

theorem witness_MainRunCompletes :
    toyDone.cfg.Valid ∧ (5 : Count24) ≠ 0 ∧ ¬(toyDone.pa.ovf = true ∧ toyDone.pa.ovie = true) ∧
      ¬(toyDone.gt.ovf = true ∧ toyDone.gt.ovie = true) := by decide

theorem witness_CycleRestartEffect : ∃ t, exec .cycleRestart toyDone = .next t := ⟨_, rfl⟩

theorem witness_FreqCombineIsExact : toyDone.cfg.Valid ∧ toyDone.InRange :=
  ⟨toyDone_valid, toyDone_inRange⟩

theorem witness_DecimalTextIsCorrect : 16777215 < 2 ^ Config.default.wf ∧ 16777215 ≠ 0 := by decide

-- The whole machine.

theorem witness_InvariantHoldsAtReset : Config.toy.Valid := by decide

theorem witness_InvariantKeptByEveryStep :
    ({ toyRun with trace := [0x00] } : State).Inv ∧
      ∃ t, step { toyRun with trace := [0x00] } = .next t := by
  refine ⟨⟨toyRun_valid, rfl, ?_, ?_, ?_⟩, _, rfl⟩
  · exact { toyRun_inRange with }
  · exact { toyRun_r46 with }
  · exact { toyRun_scheduled with }

/-- Each premise of DomainOwnership is met. -/
theorem witness_DomainOwnership :
    (take .clk toyRun).isSome = true ∧ (take .pulse toyRun).isSome = true ∧
      (take .svcPa { toyRun with pa := unitOf 0 0xF }).isSome = true ∧
      (take .svcGt { toyRun with gt := unitOf 0 0xD, gsState := .lastInterval }).isSome = true ∧
      (take .main { toyDone with cState := .latch }).isSome = true ∧
      (take .main { toyDone with cState := .restart }).isSome = true := by decide

/-- V80: both events pending in `LAST_INTERVAL`. -/
theorem witness_ServicesCommute :
    let s := { toyRun with pa := unitOf 0 0xF, gt := unitOf 0 0xD, gsRemain := 0, gsState := .lastInterval }
    s.cfg.Valid ∧ svcPaEnabled s = true ∧ svcGtEnabled s = true := by decide

theorem witness_CountsStayAfterDataReady :
    toyDone.Inv ∧ toyDone.dataReady = true ∧ withinCycle [.clk, .pulse, .main] toyDone = true ∧
      (runSteps [.clk, .pulse, .main] toyDone).isSome = true := ⟨toyDone_inv, by decide⟩

theorem witness_StartupDelayTurnsOnlyThePrescaler :
    toyReset.cfg.Valid ∧ toyReset.pa.en = false ∧ toyReset.gt.en = false ∧
      toyReset.preCnt < toyReset.cfg.prescale ∧
      (∀ st ∈ [TraceStep.clk, .pulse], st = .clk ∨ st = .pulse) := by decide

theorem witness_ReportItemReportsOnce :
    toyDone.cfg.Valid ∧ toyDone.cState = .poll ∧ toyDone.dataReady = true ∧
      mainEnabled toyDone = true := by decide

theorem witness_TickItemGivesTicks :
    toyRun.cfg.Valid ∧ toyRun.InRange ∧ toyRun.preCnt = 0 ∧ 1 ≤ 8388607 ∧
      8388607 * toyRun.cfg.prescale ≤ 16777215 := ⟨toyRun_valid, toyRun_inRange, by decide⟩

theorem witness_EachCycleReportsItsPulseCount :
    toyRun.cfg.Valid ∧ CycleStart toyRun ∧ withinCycle promptCycle toyRun = true ∧
      noLostOverflow .pa promptCycle toyRun = true ∧
      (runSteps promptCycle toyRun).map State.cState = some .restart :=
  ⟨toyRun_valid, toyRun_cycleStart, by decide, by decide, promptCycle_runs⟩

theorem witness_ExactGateLastsGateClks :
    toyRun.cfg.Valid ∧ CycleStart toyRun ∧ withinCycle promptGate toyRun = true ∧
      exactGate promptGate toyRun = true ∧
      (runSteps promptGate toyRun).map State.gsState = some .complete :=
  ⟨toyRun_valid, toyRun_cycleStart, by decide, by decide, promptGate_runs⟩

/-- A gate whose second service is late still has three services (program P3). -/
theorem witness_ServicesPerCycle :
    let late := List.replicate 8 TraceStep.clk ++ [.svcGt] ++ List.replicate 12 .clk ++ [.svcGt] ++
      List.replicate 6 .clk ++ [.svcGt]
    toyRun.cfg.Valid ∧ CycleStart toyRun ∧ withinCycle late toyRun = true ∧
      (runSteps late toyRun).map State.gsState = some .complete :=
  ⟨toyRun_valid, toyRun_cycleStart, by decide, by decide⟩

theorem witness_EagerScheduleMeasuresFrequency :
    let env := EnvStep.pulse :: List.replicate 21 EnvStep.clk
    toyRun.cfg.Valid ∧ CycleStart toyRun ∧ (∀ e ∈ env, e = .clk ∨ e = .pulse) ∧
      env.count .clk + 1 = toyRun.cfg.gateClks :=
  ⟨toyRun_valid, toyRun_cycleStart, by decide, by decide⟩

theorem witness_AssembledTextIsWellFormed :
    assemble Config.toy ['T', 'I', 'C', 'K', ' ', 'M', 'A', 'I', 'N'] =
      .ok [0x80, 0x02, 0x00, 0x00, 0x04] := by decide

/-! ### A fair infinite execution

Service what is serviceable, else take `CLK` and `MAIN` in turn. -/

/-- The step the fair schedule takes. -/
def fairStep (n : Nat) (s : State) : TraceStep :=
  if svcPaEnabled s = true then .svcPa
  else if svcGtEnabled s = true then .svcGt
  else if n % 2 = 0 then .clk else .main

/-- The effect of that step. -/
def fairEffect (n : Nat) (s : State) : State :=
  if svcPaEnabled s = true then svcPaStep s
  else if svcGtEnabled s = true then svcGtStep s
  else if n % 2 = 0 then clkStep s else mainStep s

/-- The states of the fair execution, from the start of a gate of TOY. -/
def fairState : Nat → State
  | 0 => toyRun
  | n + 1 => fairEffect n (fairState n)

theorem fairEffect_cfg (n : Nat) (s : State) : (fairEffect n s).cfg = s.cfg := by
  unfold fairEffect
  split
  · rfl
  split
  · exact gsStep_cfg _
  split
  · exact clkStep_cfg s
  · exact mainStep_cfg s

theorem fairState_cfg : ∀ n, (fairState n).cfg = Config.toy
  | 0 => rfl
  | n + 1 => (fairEffect_cfg n _).trans (fairState_cfg n)

theorem take_fairStep (n : Nat) (s : State) (hv : s.cfg.Valid) :
    take (fairStep n s) s = some (fairEffect n s) := by
  rw [take_some]
  unfold fairStep fairEffect
  by_cases hp : svcPaEnabled s = true
  · simp [hp, TraceStep.instr, exec, execSvcPa, configured_of_valid hv, whenEnabled]
  by_cases hg : svcGtEnabled s = true
  · simp [hp, hg, TraceStep.instr, exec, execSvcGt, configured_of_valid hv, whenEnabled]
  by_cases hn : n % 2 = 0
  · simp [hp, hg, hn, TraceStep.instr, exec, execClk, configured_of_valid hv]
  · simp [hp, hg, hn, TraceStep.instr, exec, execMain, configured_of_valid hv, mainLoop, whenEnabled,
      mainEnabled]

theorem gsStep_pa_serviceable (s : State) : (gsStep s).pa.serviceable = s.pa.serviceable := by
  unfold gsStep gsStepCounting
  cases s.gsState with
  | counting => dsimp only; split <;> rfl
  | lastInterval => rfl
  | complete => rfl

theorem gsStep_gt_serviceable (s : State) : (gsStep s).gt.serviceable = s.gt.serviceable := by
  unfold gsStep gsStepCounting
  cases s.gsState with
  | counting => dsimp only; split <;> rfl
  | lastInterval => rfl
  | complete => rfl

theorem mainStep_quiet {s : State} (hp : svcPaEnabled s = false) (hg : svcGtEnabled s = false) :
    svcPaEnabled (mainStep s) = false ∧ svcGtEnabled (mainStep s) = false := by
  unfold mainStep mainPoll
  cases s.cState with
  | poll => dsimp only; split <;> exact ⟨hp, hg⟩
  | boot | latch | clear | write => exact ⟨hp, hg⟩
  | restart => exact ⟨rfl, rfl⟩

theorem fair_after_svcPa {n : Nat} (h : svcPaEnabled (fairState n) = true) :
    svcPaEnabled (fairState (n + 1)) = false ∧
      svcGtEnabled (fairState (n + 1)) = svcGtEnabled (fairState n) := by
  have e : fairState (n + 1) = svcPaStep (fairState n) := by
    show fairEffect n (fairState n) = _
    simp [fairEffect, h]
  rw [e]
  exact ⟨rfl, rfl⟩

theorem fair_after_svcGt {n : Nat} (hp : svcPaEnabled (fairState n) = false)
    (hg : svcGtEnabled (fairState n) = true) :
    svcPaEnabled (fairState (n + 1)) = false ∧ svcGtEnabled (fairState (n + 1)) = false := by
  have e : fairState (n + 1) = svcGtStep (fairState n) := by
    show fairEffect n (fairState n) = _
    simp [fairEffect, hp, hg]
  rw [e]
  refine ⟨(gsStep_pa_serviceable _).trans hp, (gsStep_gt_serviceable _).trans ?_⟩
  rfl

theorem fair_quiet (n : Nat) : ∃ m, n ≤ m ∧ svcPaEnabled (fairState m) = false ∧
    svcGtEnabled (fairState m) = false := by
  have noPa : ∀ k, svcPaEnabled (fairState k) = false → ∃ m, k ≤ m ∧
      svcPaEnabled (fairState m) = false ∧ svcGtEnabled (fairState m) = false := by
    intro k hp
    by_cases hg : svcGtEnabled (fairState k) = true
    · exact ⟨k + 1, by omega, fair_after_svcGt hp hg⟩
    · exact ⟨k, Nat.le_refl k, hp, by simpa using hg⟩
  by_cases hp : svcPaEnabled (fairState n) = true
  · obtain ⟨m, hm, h⟩ := noPa (n + 1) (fair_after_svcPa hp).1
    exact ⟨m, by omega, h⟩
  · exact noPa n (by simpa using hp)

theorem fair_execution : Fair fairState (fun n => fairStep n (fairState n)) where
  clkRecurs n := by
    obtain ⟨m, hm, hp, hg⟩ := fair_quiet n
    by_cases h : m % 2 = 0
    · exact ⟨m, hm, by simp [fairStep, hp, hg, h]⟩
    · have e : fairState (m + 1) = mainStep (fairState m) := by
        show fairEffect m (fairState m) = _
        simp [fairEffect, hp, hg, h]
      have q := mainStep_quiet hp hg
      rw [← e] at q
      exact ⟨m + 1, by omega, by simp [fairStep, q.1, q.2, show (m + 1) % 2 = 0 by omega]⟩
  svcPaTaken n h := ⟨n, Nat.le_refl n, by simp [fairStep, h n (Nat.le_refl n)]⟩
  svcGtTaken n h := by
    by_cases hp : svcPaEnabled (fairState n) = true
    · exact ⟨n + 1, by omega,
        by simp [fairStep, (fair_after_svcPa hp).1, h (n + 1) (by omega)]⟩
    · exact ⟨n, Nat.le_refl n, by simp [fairStep, hp, h n (Nat.le_refl n)]⟩
  mainTaken n h := by
    have quiet : ∀ m, n ≤ m → svcPaEnabled (fairState m) = false ∧ svcGtEnabled (fairState m) = false := by
      intro m hm
      simpa [mainEnabled] using h m hm
    by_cases hn : n % 2 = 0
    · have q := quiet (n + 1) (by omega)
      exact ⟨n + 1, by omega, by simp [fairStep, q.1, q.2, show (n + 1) % 2 = 1 by omega]⟩
    · have q := quiet n (Nat.le_refl n)
      exact ⟨n, Nat.le_refl n, by simp [fairStep, q.1, q.2, hn]⟩

theorem fairStep_not_reset (n : Nat) (s : State) : fairStep n s ≠ .reset := by
  unfold fairStep
  split
  · simp
  split
  · simp
  split <;> simp

theorem witness_FairExecutionsKeepReporting :
    (fairState 0).Inv ∧ InfiniteRun fairState (fun n => fairStep n (fairState n)) ∧
      Fair fairState (fun n => fairStep n (fairState n)) ∧
      ∀ n, fairStep n (fairState n) ≠ .reset :=
  ⟨toyRun_inv, fun n => take_fairStep n _ (by rw [fairState_cfg]; decide), fair_execution,
    fun n => fairStep_not_reset n _⟩

end Sys2Proof.Machine.Tests
end

-- The scope family (00_scope.md R7 to R11): the derived constants, the configurations that are
-- refused, and the fields of State that no instruction writes.
section
namespace Sys2Proof

/-! ### The derived constants of a configuration (R8) -/

theorem Config.ovfPeriod_pos (c : Config) : 0 < c.ovfPeriod := Nat.two_pow_pos c.wg

/-- The budget as a ceiling less one: it exceeds `k` exactly when more than `k + 1` whole overflow
periods fit below the gate. -/
theorem Config.lt_gateBudget_iff (c : Config) (k : Nat) :
    k < c.gateBudget ↔ (k + 1) * c.ovfPeriod < c.gateTicks := by
  have hP := c.ovfPeriod_pos
  have hdiv : k + 2 ≤ (c.gateTicks + c.ovfPeriod - 1) / c.ovfPeriod ↔
      (k + 1) * c.ovfPeriod + c.ovfPeriod ≤ c.gateTicks + c.ovfPeriod - 1 := by
    rw [Nat.le_div_iff_mul_le hP, ← Nat.succ_mul]
  unfold Config.gateBudget
  omega

/-- R9's own equivalence: a budget of at least 1 is a gate longer than one overflow period. -/
theorem Config.one_le_gateBudget_iff (c : Config) : 1 ≤ c.gateBudget ↔ 2 ^ c.wg < c.gateTicks := by
  rw [Nat.succ_le_iff, c.lt_gateBudget_iff, Nat.zero_add, Nat.one_mul, Config.ovfPeriod]

/-- One period more reaches the end of the gate. -/
theorem Config.gateTicks_le (c : Config) : c.gateTicks ≤ (c.gateBudget + 1) * c.ovfPeriod :=
  Nat.le_of_not_lt fun h => Nat.lt_irrefl _ ((c.lt_gateBudget_iff _).mpr h)

section
variable {c : Config} (h : 1 ≤ c.gateBudget)
include h

/-- `B` whole periods end before the gate does. -/
theorem Config.gateBudget_mul_lt : c.gateBudget * c.ovfPeriod < c.gateTicks := by
  have hlt := (c.lt_gateBudget_iff (c.gateBudget - 1)).mp (by omega)
  rwa [Nat.sub_add_cancel h] at hlt

/-- `B * P + RT = T`. -/
theorem Config.gateSplit : c.gateBudget * c.ovfPeriod + c.gateResidualTicks = c.gateTicks :=
  Nat.add_sub_cancel' (Config.gateBudget_mul_lt h).le

/-- `1 ≤ RT ≤ P`. -/
theorem Config.gateResidualTicks_bounds :
    1 ≤ c.gateResidualTicks ∧ c.gateResidualTicks ≤ c.ovfPeriod := by
  have hlt := Config.gateBudget_mul_lt h
  have hle := c.gateTicks_le
  have hsplit := Config.gateSplit h
  rw [Nat.add_mul, Nat.one_mul] at hle
  omega

theorem Config.gatePreload_add_residual : c.gatePreload + c.gateResidualTicks = c.ovfPeriod :=
  Nat.sub_add_cancel (Config.gateResidualTicks_bounds h).2

/-- R8 where `T` is no multiple of `P`: budget and residual are quotient and remainder. -/
theorem Config.gateSplit_of_not_dvd (hd : ¬c.ovfPeriod ∣ c.gateTicks) :
    c.gateBudget = c.gateTicks / c.ovfPeriod ∧ c.gateResidualTicks = c.gateTicks % c.ovfPeriod := by
  have hsplit := Config.gateSplit h
  have hne : c.gateResidualTicks ≠ c.ovfPeriod := fun e =>
    hd ⟨c.gateBudget + 1, by rw [← hsplit, e]; ring⟩
  have hlt : c.gateResidualTicks < c.ovfPeriod :=
    lt_of_le_of_ne (Config.gateResidualTicks_bounds h).2 hne
  have hsum : c.gateResidualTicks + c.ovfPeriod * c.gateBudget = c.gateTicks := by
    rw [← hsplit, Nat.mul_comm, Nat.add_comm]
  obtain ⟨hq, hr⟩ := (Nat.div_mod_unique c.ovfPeriod_pos).mpr ⟨hsum, hlt⟩
  exact ⟨hq.symm, hr.symm⟩

/-- R8 where `T` is a multiple of `P`: the last interval is one whole period, and the preload is 0. -/
theorem Config.gateSplit_of_dvd (hd : c.ovfPeriod ∣ c.gateTicks) :
    c.gateBudget = c.gateTicks / c.ovfPeriod - 1 ∧ c.gateResidualTicks = c.ovfPeriod ∧
      c.gatePreload = 0 := by
  have hsplit := Config.gateSplit h
  obtain ⟨hpos, hle⟩ := Config.gateResidualTicks_bounds h
  have hdvd : c.ovfPeriod ∣ c.gateResidualTicks :=
    (Nat.dvd_add_right (Nat.dvd_mul_left _ _)).mp (hsplit ▸ hd)
  have hres : c.gateResidualTicks = c.ovfPeriod := Nat.le_antisymm hle (Nat.le_of_dvd hpos hdvd)
  have hticks : c.gateTicks = (c.gateBudget + 1) * c.ovfPeriod := by
    rw [← hsplit, hres, Nat.add_mul, Nat.one_mul]
  refine ⟨?_, hres, by rw [Config.gatePreload, hres, Nat.sub_self]⟩
  rw [hticks, Nat.mul_div_cancel _ c.ovfPeriod_pos, Nat.add_sub_cancel]

end

/-- `GATE_CLKS` is `CLK_HZ` less the remainder of the prescaler's division. -/
theorem Config.gateClks_add_mod (c : Config) : c.gateClks + c.clkHz % c.prescale = c.clkHz :=
  Nat.div_add_mod' _ _

/-- The width to hold `n` is the least width whose values reach `n`. -/
theorem bitsToHold_le_iff (n w : Nat) : bitsToHold n ≤ w ↔ n < 2 ^ w := by
  unfold bitsToHold
  split
  case isTrue hn => simp [hn]
  case isFalse hn => rw [Nat.succ_le_iff, Nat.log2_lt hn]

/-- Counting digits is the logarithm to base 10, given as much fuel as the number. -/
theorem digitCountFrom_eq_log {fuel n : Nat} (h : n ≤ fuel) :
    digitCountFrom fuel n = Nat.log 10 n + 1 := by
  induction fuel generalizing n with
  | zero => simp [digitCountFrom, Nat.le_zero.mp h]
  | succ fuel ih =>
    unfold digitCountFrom
    split
    case isTrue hlt => rw [Nat.log_of_lt hlt]
    case isFalse hge =>
      rw [ih (by omega), Nat.log_of_one_lt_of_le (by decide) (Nat.le_of_not_lt hge)]

theorem digitCount_eq_log (n : Nat) : digitCount n = Nat.log 10 n + 1 :=
  digitCountFrom_eq_log (Nat.le_refl n)

/-- A positive number lies between the powers of ten its number of digits names. -/
theorem digitCount_bounds {n : Nat} (h : n ≠ 0) :
    10 ^ (digitCount n - 1) ≤ n ∧ n < 10 ^ digitCount n := by
  rw [digitCount_eq_log]
  exact ⟨Nat.pow_log_le_self 10 h, Nat.lt_pow_succ_log_self (by decide) n⟩

/-- Settles O13: the budget is a ceiling less one, from which the split of the gate follows. -/
theorem gateSplitIsExact : Obligations.GateSplitIsExact := by
  intro c hc
  obtain ⟨hw1, -, -, -, -, hprescale, hbudget, -⟩ := hc
  have hmod : c.clkHz % c.prescale < c.prescale := Nat.mod_lt _ hprescale
  have hclks := c.gateClks_add_mod
  have hmax : 2 ^ c.wf - 1 ≠ 0 := by
    have : 1 < 2 ^ c.wf := Nat.one_lt_two_pow (by unfold Config.wf; omega)
    omega
  refine ⟨⟨Nat.div_mul_le_self _ _, ?_⟩, rfl, ⟨Config.gateBudget_mul_lt hbudget, c.gateTicks_le⟩,
    Config.gateSplit hbudget, Config.gateResidualTicks_bounds hbudget,
    Config.gatePreload_add_residual hbudget, Config.gateSplit_of_not_dvd hbudget,
    Config.gateSplit_of_dvd hbudget, fun w => (bitsToHold_le_iff _ w).symm, rfl,
    digitCount_bounds hmax, rfl, by omega, by omega⟩
  calc c.clkHz = c.gateTicks * c.prescale + c.clkHz % c.prescale := hclks.symm
    _ < c.gateTicks * c.prescale + c.prescale := by omega
    _ = (c.gateTicks + 1) * c.prescale := by ring

/-- Settles O14, by evaluation of the two configurations. -/
theorem defaultAndToyConstants : Obligations.DefaultAndToyConstants := by
  unfold Obligations.DefaultAndToyConstants
  decide

namespace Machine

/-! ### Configurations that are refused (R9) -/

theorem configured_of_invalid {s : State} {r : Result} (h : ¬s.cfg.Valid) :
    configured s r = .refused .invalidConfig :=
  if_neg h

/-- Every instruction's meaning is given under `configured`. -/
theorem exec_of_invalid (i : Instr) {s : State} (h : ¬s.cfg.Valid) :
    exec i s = .refused .invalidConfig := by
  cases i <;> exact configured_of_invalid h

/-- Settles O15: validity with the budget's lower bound read as `2 ^ WG < T`, and the refusal that
every meaning begins with. -/
theorem invalidConfigurationRefused : Obligations.InvalidConfigurationRefused :=
  ⟨fun c => by simp only [Config.Valid, c.one_le_gateBudget_iff],
    Config.one_le_gateBudget_iff, fun i _ h => exec_of_invalid i h⟩

/-! ### The model's own fields (R7, R47)

An instruction neither reads nor writes the rest of the trace and the bench's request: running it
commutes with replacing the two. That they are kept follows, because replacing them by what they
are changes nothing. -/

/-- The state with another rest of the trace and another bench request. -/
def State.withStimulus (bs : List Byte) (req : Option Code) (s : State) : State :=
  { s with trace := bs, bench := { s.bench with request := req } }

@[simp] theorem State.withStimulus_gsState (bs : List Byte) (req : Option Code) (s : State) :
    (s.withStimulus bs req).gsState = s.gsState := rfl

@[simp] theorem State.withStimulus_cState (bs : List Byte) (req : Option Code) (s : State) :
    (s.withStimulus bs req).cState = s.cState := rfl

/-- The result with another rest of the trace and another bench request in its state. -/
def resultWithStimulus (bs : List Byte) (req : Option Code) : Result → Result
  | .next t => .next (t.withStimulus bs req)
  | .fault f => .fault f
  | .refused why => .refused why

/-- A meaning that keeps the configuration and commutes with replacing the trace and the request. -/
structure LeavesModelFields (f : State → Result) : Prop where
  cfg_eq : ∀ {s t}, f s = .next t → t.cfg = s.cfg
  commutes : ∀ bs req s, f (s.withStimulus bs req) = resultWithStimulus bs req (f s)

/-- What a commuting meaning answers leaves the trace and the request as they were. -/
theorem LeavesModelFields.stimulus_eq {f : State → Result} (hf : LeavesModelFields f) {s t : State}
    (h : f s = .next t) : t.trace = s.trace ∧ t.bench.request = s.bench.request := by
  have e : f s = resultWithStimulus s.trace s.bench.request (f s) :=
    hf.commutes s.trace s.bench.request s
  rw [h] at e
  have ht : t = t.withStimulus s.trace s.bench.request := Host.Outcome.next.inj e
  exact ⟨ht ▸ rfl, ht ▸ rfl⟩

theorem LeavesModelFields.configured {f : State → Result} (hf : LeavesModelFields f) :
    LeavesModelFields fun s => configured s (f s) where
  cfg_eq h := hf.cfg_eq (configured_next.mp h).2
  commutes bs req s := by
    by_cases hv : s.cfg.Valid
    · rw [configured_of_valid hv, configured_of_valid (s := s.withStimulus bs req) hv]
      exact hf.commutes bs req s
    · rw [configured_of_invalid hv, configured_of_invalid (s := s.withStimulus bs req) hv]
      rfl

theorem LeavesModelFields.whenEnabled {f : State → Result} (hf : LeavesModelFields f)
    {en : State → Bool} (hen : ∀ bs req s, en (s.withStimulus bs req) = en s) (flt : Fault) :
    LeavesModelFields fun s => whenEnabled (en s) flt (f s) where
  cfg_eq h := hf.cfg_eq (whenEnabled_next.mp h).2
  commutes bs req s := by
    rw [hen, hf.commutes]
    cases en s <;> rfl

section
variable (mode : GsState) (c : CState) {g : State → State} (hcfg : ∀ s, (g s).cfg = s.cfg)
  (hg : ∀ bs req s, g (s.withStimulus bs req) = (g s).withStimulus bs req)
include hcfg hg

/-- An effect on the state, answered unconditionally. -/
theorem leavesModelFields_next : LeavesModelFields fun s => .next (g s) where
  cfg_eq h := Host.Outcome.next.inj h ▸ hcfg _
  commutes bs req s := congrArg Host.Outcome.next (hg bs req s)

/-- A meaning that answers in every valid configuration. -/
theorem always_leavesModelFields : LeavesModelFields fun s => configured s (.next (g s)) :=
  (leavesModelFields_next hcfg hg).configured

theorem mainLoop_leavesModelFields : LeavesModelFields (mainLoop g) :=
  (leavesModelFields_next hcfg hg).whenEnabled (fun _ _ _ => rfl) _

theorem gsBehaviour_leavesModelFields : LeavesModelFields (gsBehaviour mode g) :=
  ((leavesModelFields_next hcfg hg).whenEnabled (fun _ _ _ => rfl) _).configured

theorem mainBehaviour_leavesModelFields : LeavesModelFields (mainBehaviour c g) :=
  ((mainLoop_leavesModelFields hcfg hg).whenEnabled (fun _ _ _ => rfl) _).configured

end

theorem LeavesModelFields.repeatStep {f : State → Result} (hf : LeavesModelFields f) (k : Nat) :
    LeavesModelFields (repeatStep k f) := by
  induction k with
  | zero => exact leavesModelFields_next (fun _ => rfl) fun _ _ _ => rfl
  | succ k ih =>
    constructor
    case cfg_eq =>
      intro s t h
      unfold Machine.repeatStep at h
      split at h
      case h_1 u hu => exact (ih.cfg_eq h).trans (hf.cfg_eq hu)
      case h_2 | h_3 => cases h
    case commutes =>
      intro bs req s
      unfold Machine.repeatStep
      rw [hf.commutes]
      cases f s with
      | next u => exact ih.commutes bs req u
      | fault | refused => rfl

theorem LeavesModelFields.repeated {f : State → Result} (hf : LeavesModelFields f) (n : Count24) :
    LeavesModelFields (repeated n f) where
  cfg_eq h := (hf.repeatStep n.toNat).cfg_eq (repeated_next.mp h).2
  commutes bs req s := by
    unfold Machine.repeated
    split
    · rfl
    · exact (hf.repeatStep n.toNat).commutes bs req s

/-! #### The effects that test a register -/

section
variable (bs : List Byte) (req : Option Code) (s : State)

theorem clkStep_withStimulus : clkStep (s.withStimulus bs req) = (clkStep s).withStimulus bs req := by
  cases h : atTick s with
  | true => rw [clkStep_tick h, clkStep_tick (s := s.withStimulus bs req) h]; rfl
  | false => rw [clkStep_no_tick h, clkStep_no_tick (s := s.withStimulus bs req) h]; rfl

theorem pulseStep_withStimulus :
    pulseStep (s.withStimulus bs req) = (pulseStep s).withStimulus bs req := by
  rw [pulseStep_eq, pulseStep_eq]
  rfl

theorem gsStepCounting_withStimulus :
    gsStepCounting (s.withStimulus bs req) = (gsStepCounting s).withStimulus bs req := by
  rw [gsStepCounting, gsStepCounting, apply_ite (State.withStimulus bs req)]
  rfl

theorem gsStep_withStimulus : gsStep (s.withStimulus bs req) = (gsStep s).withStimulus bs req := by
  rw [gsStep, gsStep, State.withStimulus_gsState]
  cases s.gsState with
  | counting => exact gsStepCounting_withStimulus bs req s
  | lastInterval | complete => rfl

theorem svcGtStep_cfg : (svcGtStep s).cfg = s.cfg :=
  gsStep_cfg (s.setGt s.gt.acknowledged)

theorem svcGtStep_withStimulus :
    svcGtStep (s.withStimulus bs req) = (svcGtStep s).withStimulus bs req :=
  gsStep_withStimulus bs req (s.setGt s.gt.acknowledged)

theorem mainPoll_cfg : (mainPoll s).cfg = s.cfg := by
  unfold mainPoll
  split <;> rfl

theorem mainPoll_withStimulus :
    mainPoll (s.withStimulus bs req) = (mainPoll s).withStimulus bs req := by
  rw [mainPoll, mainPoll, apply_ite (State.withStimulus bs req)]
  rfl

theorem mainStep_withStimulus :
    mainStep (s.withStimulus bs req) = (mainStep s).withStimulus bs req := by
  rw [mainStep, mainStep, State.withStimulus_cState]
  cases s.cState with
  | poll => exact mainPoll_withStimulus bs req s
  | boot | latch | clear | write | restart => rfl

end

/-! #### The instructions -/

theorem execClk_leavesModelFields : LeavesModelFields execClk :=
  always_leavesModelFields clkStep_cfg clkStep_withStimulus

theorem execPulse_leavesModelFields : LeavesModelFields execPulse :=
  always_leavesModelFields pulseStep_cfg pulseStep_withStimulus

theorem execMain_leavesModelFields : LeavesModelFields execMain :=
  (mainLoop_leavesModelFields mainStep_cfg mainStep_withStimulus).configured

theorem exec_leavesModelFields (i : Instr) : LeavesModelFields (exec i) := by
  cases i with
  | clk => exact execClk_leavesModelFields
  | pulse => exact execPulse_leavesModelFields
  | main => exact execMain_leavesModelFields
  | clkRep n => exact (execClk_leavesModelFields.repeated n).configured
  | pulseRep n => exact (execPulse_leavesModelFields.repeated n).configured
  | mainRep n => exact (execMain_leavesModelFields.repeated n).configured
  | svcPa =>
    exact ((leavesModelFields_next (g := svcPaStep) (fun _ => rfl) fun _ _ _ => rfl).whenEnabled
      (fun _ _ _ => rfl) _).configured
  | svcGt =>
    exact ((leavesModelFields_next svcGtStep_cfg svcGtStep_withStimulus).whenEnabled
      (fun _ _ _ => rfl) _).configured
  | gsStep => exact always_leavesModelFields gsStep_cfg gsStep_withStimulus
  | gsStepCounting =>
    exact gsBehaviour_leavesModelFields _ gsStepCounting_cfg gsStepCounting_withStimulus
  | gsStepLastInterval | gsStepComplete =>
    exact gsBehaviour_leavesModelFields _ (fun _ => rfl) fun _ _ _ => rfl
  | mainPoll => exact mainBehaviour_leavesModelFields _ mainPoll_cfg mainPoll_withStimulus
  | mainBoot | mainLatch | mainClear | mainWrite | mainRestart =>
    exact mainBehaviour_leavesModelFields _ (fun _ => rfl) fun _ _ _ => rfl
  | reset | paStart | paStop | paRead | oeReset | oeInc | gtStart | gtStop | gtLoad | gsReset
  | cycleRestart | freqCombine | decFormat | dispClear | dispWrite =>
    exact always_leavesModelFields (fun _ => rfl) fun _ _ _ => rfl

/-- No instruction changes the configuration. -/
theorem exec_next_cfg {i : Instr} {s t : State} (h : exec i s = .next t) : t.cfg = s.cfg :=
  (exec_leavesModelFields i).cfg_eq h

/-- Settles O16: every meaning is built from operations that leave the model's own fields alone. -/
theorem configurationIsFixed : Obligations.ConfigurationIsFixed := by
  intro i s t h
  have hi := exec_leavesModelFields i
  obtain ⟨htrace, hrequest⟩ := hi.stimulus_eq h
  refine ⟨hi.cfg_eq h, htrace, hrequest, fun bs req => ?_⟩
  exact (hi.commutes bs req s).trans (congrArg (resultWithStimulus bs req) h)

end Machine
end Sys2Proof
end

-- The state family (10_state.md R20 to R47): the register views, the ranges of the registers, the
-- fields each domain writes, and the invariant of every execution.
section
namespace Sys2Proof

/-! ### Constants that fit the registers they are loaded into (R24, R33) -/

theorem Config.gateBudget_lt {c : Config} (hv : c.Valid) : c.gateBudget < 2 ^ c.wb := by
  obtain ⟨-, -, -, -, -, -, -, hle⟩ := hv
  have := Nat.two_pow_pos c.wb
  omega

/-- The preload is below the period, since the last interval is not empty. -/
theorem Config.gatePreload_lt {c : Config} (hv : c.Valid) : c.gatePreload < 2 ^ c.wg := by
  obtain ⟨-, -, -, -, -, -, hbudget, -⟩ := hv
  have hsum := Config.gatePreload_add_residual hbudget
  have hpos := (Config.gateResidualTicks_bounds hbudget).1
  rw [Config.ovfPeriod] at hsum
  omega

namespace Machine

/-! ### Register views (R26, R36, R40) -/

/-- Packing one more bit below a vector. -/
theorem toNat_append_ofBool {n : Nat} (v : BitVec n) (b : Bool) :
    (v ++ BitVec.ofBool b).toNat = b.toNat + 2 * v.toNat := by
  have h : (v ++ BitVec.ofBool b).toNat = v.toNat * 2 + b.toNat := BitVec.toNat_concat v b
  rw [h, Nat.add_comm, Nat.mul_comm]

theorem ClockSource.toNat_bit (src : ClockSource) : src.bit.toNat = if src = .ext then 1 else 0 := by
  cases src <;> rfl

theorem CountUnit.ctl_toNat (u : CountUnit) :
    u.ctl.toNat = u.en.toNat + 2 * (if u.cs = .ext then 1 else 0) + 4 * u.ovie.toNat +
      8 * u.ovf.toNat := by
  simp only [CountUnit.ctl, toNat_append_ofBool, BitVec.toNat_ofBool, ← ClockSource.toNat_bit]
  ring

theorem State.flags_toNat (s : State) :
    s.flags.toNat = s.dataReady.toNat + 2 * s.gsState.bits.toNat :=
  toNat_append_ofBool _ _

/-- Settles O17: the packed views bit by bit, and each range of `InRange` as a width. -/
theorem registerViews : Obligations.RegisterViews := by
  refine ⟨fun c => rfl, fun s => ⟨rfl, rfl, rfl, rfl, rfl, rfl, rfl, s.pa.ctl_toNat, s.gt.ctl_toNat,
    s.flags_toNat⟩, fun s r _ hs => ?_⟩
  cases r with
  | paCnt => exact hs.paCnt
  | paCtl => exact s.pa.ctl.isLt
  | gtCnt => exact hs.gtCnt
  | gtCtl => exact s.gt.ctl.isLt
  | preCnt => exact hs.preCnt.trans_lt ((bitsToHold_le_iff _ s.cfg.wp).mp (Nat.le_refl _))
  | ovfTally => exact hs.ovfTally
  | gsRemain => exact hs.gsRemain
  | flags => exact s.flags.isLt
  | freq => exact hs.freq
  | cState => exact s.cState.bits.isLt

/-! ### Decimal text as digits (R162) -/

/-- The loop of `DEC_FORMAT` puts the digits before what it has, most significant first. -/
theorem decDigits_eq_digits {fuel n : Nat} (h : n ≤ fuel) (acc : List Byte) :
    decDigits fuel n acc = (Nat.digits 10 n).reverse.map digitByte ++ acc := by
  induction fuel generalizing n acc with
  | zero => simp [decDigits, Nat.le_zero.mp h]
  | succ fuel ih =>
    unfold decDigits
    split
    case isTrue hn => simp [hn]
    case isFalse hn =>
      rw [ih (by omega), Nat.digits_def' (by decide) (Nat.pos_of_ne_zero hn)]
      simp

theorem decFormat_of_ne_zero {n : Nat} (h : n ≠ 0) :
    decFormat n = (Nat.digits 10 n).reverse.map digitByte := by
  rw [decFormat, if_neg h, decDigits_eq_digits (Nat.le_refl n), List.append_nil]

/-- The text has as many bytes as the number has digits. -/
theorem decFormat_length (n : Nat) : (decFormat n).length = digitCount n := by
  by_cases h : n = 0
  · rw [h]
    rfl
  · rw [decFormat_of_ne_zero h, digitCount_eq_log, List.length_map, List.length_reverse,
      Nat.length_digits 10 n (by decide) h]

theorem digitByte_bounds {d : Nat} (h : d < 10) :
    0x30 ≤ (digitByte d).toNat ∧ (digitByte d).toNat ≤ 0x39 := by
  have e : (digitByte d).toNat = 0x30 + d := Nat.mod_eq_of_lt (by omega)
  omega

/-- Every byte of the text is the byte of a digit. -/
theorem mem_decFormat {n : Nat} {b : Byte} (h : b ∈ decFormat n) : ∃ d < 10, digitByte d = b := by
  by_cases hn : n = 0
  · rw [hn] at h
    exact ⟨0, by decide, (List.mem_singleton.mp h).symm⟩
  · rw [decFormat_of_ne_zero hn] at h
    obtain ⟨d, hd, rfl⟩ := List.mem_map.mp h
    exact ⟨d, Nat.digits_lt_base (by decide) (List.mem_reverse.mp hd), rfl⟩

/-- `DEC_FORMAT` of a combined count gives a legal operand of `DISP_WRITE` (R163, R165). -/
theorem legalText_decFormat {c : Config} {n : Nat} (h : n < 2 ^ c.wf) : legalText c (decFormat n) := by
  have hlog : Nat.log 10 n ≤ Nat.log 10 (2 ^ c.wf - 1) := Nat.log_mono_right (by omega)
  refine ⟨?_, ?_, fun b hb => ?_⟩
  · rw [decFormat_length, digitCount_eq_log]
    exact Nat.succ_pos _
  · rw [decFormat_length, Config.maxDigits, digitCount_eq_log, digitCount_eq_log]
    exact Nat.succ_le_succ hlog
  · obtain ⟨d, hd, rfl⟩ := mem_decFormat hb
    exact digitByte_bounds hd

/-! ### Registers in range, update by update

Each update of `State` that writes a value of the register's width keeps `InRange`; the updates of
registers whose type is their range need nothing. -/

section
variable {s : State} (h : s.InRange)
include h

theorem State.InRange.setPa {u : CountUnit} (hu : u.cnt < 2 ^ s.cfg.w1) : (s.setPa u).InRange :=
  { h with paCnt := hu }

theorem State.InRange.setGt {u : CountUnit} (hu : u.cnt < 2 ^ s.cfg.wg) : (s.setGt u).InRange :=
  { h with gtCnt := hu }

theorem State.InRange.setPreCnt {n : Nat} (hn : n ≤ s.cfg.prescale - 1) : (s.setPreCnt n).InRange :=
  { h with preCnt := hn }

theorem State.InRange.setOvfTally {n : Nat} (hn : n < 2 ^ s.cfg.w2) : (s.setOvfTally n).InRange :=
  { h with ovfTally := hn }

theorem State.InRange.setGsRemain {n : Nat} (hn : n < 2 ^ s.cfg.wb) : (s.setGsRemain n).InRange :=
  { h with gsRemain := hn }

theorem State.InRange.setFreq {n : Nat} (hn : n < 2 ^ s.cfg.wf) : (s.setFreq n).InRange :=
  { h with freq := hn }

theorem State.InRange.setGsState (g : GsState) : (s.setGsState g).InRange := { h with }

theorem State.InRange.setDataReady (b : Bool) : (s.setDataReady b).InRange := { h with }

theorem State.InRange.setCState (c : CState) : (s.setCState c).InRange := { h with }

theorem State.InRange.returnNum {n : Nat} (hn : n < 2 ^ s.cfg.wf) : (returnNum n s).InRange :=
  { h with benchNum := hn }

theorem State.InRange.returnText {t : List Byte} (ht : legalText s.cfg t) : (returnText t s).InRange :=
  { h with benchText := ht }

theorem State.InRange.emit {e : DispEvent} (he : legalEvent s.cfg e) : (emit e s).InRange :=
  { h with dispLog := List.forall_mem_append.mpr ⟨h.dispLog, List.forall_mem_singleton.mpr he⟩ }

end

/-! ### Registers in range, operation by operation -/

theorem CountUnit.clocked_cnt_lt {src : ClockSource} {w : Nat} {u : CountUnit} (h : u.cnt < 2 ^ w) :
    (u.clocked src w).cnt < 2 ^ w := by
  unfold CountUnit.clocked
  split
  · exact CountUnit.count_cnt_lt h
  · exact h

theorem resetOf_inRange {c : Config} (hv : c.Valid) : (State.resetOf c).InRange where
  paCnt := Nat.two_pow_pos _
  gtCnt := Nat.two_pow_pos _
  preCnt := Nat.zero_le _
  ovfTally := Nat.two_pow_pos _
  gsRemain := Config.gateBudget_lt hv
  freq := Nat.two_pow_pos _
  dispLog _ he := nomatch he
  benchNum := Nat.two_pow_pos _
  benchText := legalText_decFormat (Nat.two_pow_pos c.wf)

section
variable {s : State} (hs : s.InRange)
include hs

theorem clkStep_inRange : (clkStep s).InRange := by
  cases h : atTick s with
  | true =>
    rw [clkStep_tick h]
    exact ((hs.setPreCnt (Nat.zero_le _)).setPa (CountUnit.clocked_cnt_lt hs.paCnt)).setGt
      (CountUnit.clocked_cnt_lt hs.gtCnt)
  | false =>
    have hne : s.preCnt ≠ s.cfg.prescale - 1 := by simpa [atTick] using h
    rw [clkStep_no_tick h]
    exact hs.setPreCnt (Nat.lt_of_le_of_ne hs.preCnt hne)

theorem pulseStep_inRange : (pulseStep s).InRange := by
  rw [pulseStep_eq]
  exact (hs.setPa (CountUnit.clocked_cnt_lt hs.paCnt)).setGt (CountUnit.clocked_cnt_lt hs.gtCnt)

theorem oeInc_inRange : (oeInc s).InRange := hs.setOvfTally (addMod_lt _ _ _)

theorem svcPaStep_inRange : (svcPaStep s).InRange :=
  oeInc_inRange (hs.setPa (u := s.pa.acknowledged) hs.paCnt)

theorem paStart_inRange : (paStart s).InRange := hs.setPa (Nat.two_pow_pos _)

theorem paStop_inRange : (paStop s).InRange := hs.setPa hs.paCnt

theorem gtStart_inRange : (gtStart s).InRange :=
  (hs.setGt (Nat.two_pow_pos _)).setPreCnt (Nat.zero_le _)

theorem gtStop_inRange : (gtStop s).InRange := hs.setGt hs.gtCnt

theorem gsStepLastInterval_inRange : (gsStepLastInterval s).InRange :=
  ((paStop_inRange (gtStop_inRange hs)).setDataReady true).setGsState .complete

theorem oeReset_inRange : (oeReset s).InRange := hs.setOvfTally (Nat.two_pow_pos _)

theorem freqCombine_lt : freqCombine s < 2 ^ s.cfg.wf := concatBits_lt hs.ovfTally hs.paCnt

theorem paRead_lt : paRead s < 2 ^ s.cfg.wf :=
  hs.paCnt.trans_le (Nat.pow_le_pow_right (by decide) (Nat.le_add_right _ _))

theorem dispClear_inRange : (dispClear s).InRange := hs.emit rfl

theorem dispWrite_inRange {t : List Byte} (ht : legalText s.cfg t) : (dispWrite t s).InRange :=
  hs.emit ht

theorem mainPoll_inRange : (mainPoll s).InRange := by
  unfold mainPoll
  split
  · exact hs.setCState .latch
  · exact hs

theorem mainLatch_inRange : (mainLatch s).InRange :=
  ((hs.setFreq (freqCombine_lt hs)).setDataReady false).setCState .clear

theorem mainClear_inRange : (mainClear s).InRange := (dispClear_inRange hs).setCState .write

theorem mainWrite_inRange : (mainWrite s).InRange :=
  (dispWrite_inRange hs (legalText_decFormat hs.freq)).setCState .restart

variable (hv : s.cfg.Valid)
include hv

theorem gtLoad_inRange : (gtLoad s).InRange := hs.setGt (Config.gatePreload_lt hv)

theorem gsReset_inRange : (gsReset s).InRange :=
  (hs.setGsState .counting).setGsRemain (Config.gateBudget_lt hv)

theorem gsStepCounting_inRange : (gsStepCounting s).InRange := by
  obtain ⟨-, e⟩ | ⟨-, e⟩ := gsStepCounting_cases s
  · rw [e]
    exact ((gtLoad_inRange hs hv).setGsRemain (Nat.two_pow_pos _)).setGsState .lastInterval
  · rw [e]
    exact hs.setGsRemain (subMod_lt _ _ _)

theorem gsStep_inRange : (gsStep s).InRange := by
  unfold gsStep
  cases s.gsState with
  | counting => exact gsStepCounting_inRange hs hv
  | lastInterval => exact gsStepLastInterval_inRange hs
  | complete => exact hs

theorem svcGtStep_inRange : (svcGtStep s).InRange :=
  gsStep_inRange (hs.setGt (u := s.gt.acknowledged) hs.gtCnt) hv

theorem cycleRestart_inRange : (cycleRestart s).InRange :=
  (gtStart_inRange (paStart_inRange (gsReset_inRange (oeReset_inRange hs) hv))).setDataReady false

theorem mainRestart_inRange : (mainRestart s).InRange := (cycleRestart_inRange hs hv).setCState .poll

theorem mainStep_inRange : (mainStep s).InRange := by
  unfold mainStep
  cases s.cState with
  | boot => exact hs.setCState .restart
  | poll => exact mainPoll_inRange hs
  | latch => exact mainLatch_inRange hs
  | clear => exact mainClear_inRange hs
  | write => exact mainWrite_inRange hs
  | restart => exact mainRestart_inRange hs hv

theorem resetStep_inRange : (resetStep s).InRange :=
  { resetOf_inRange hv with benchNum := hs.benchNum, benchText := hs.benchText }

end

/-! ### What a meaning keeps -/

/-- From a state of `P` the meaning answers states of `P` only. -/
def Keeps (P : State → Prop) (f : State → Result) : Prop :=
  ∀ ⦃s t⦄, P s → f s = .next t → P t

section
variable {P : State → Prop}

theorem Keeps.repeatStep {f : State → Result} (hf : Keeps P f) (k : Nat) :
    Keeps P (repeatStep k f) := by
  induction k with
  | zero =>
    intro s t hs h
    exact Host.Outcome.next.inj h ▸ hs
  | succ k ih =>
    intro s t hs h
    unfold Machine.repeatStep at h
    split at h
    case h_1 u hu => exact ih (hf hs hu) h
    case h_2 | h_3 => cases h

/-- A format R item keeps what its step keeps (R83). -/
theorem Keeps.repeatItem {f : State → Result} (hf : Keeps P f) (n : Count24) :
    Keeps P fun s => configured s (repeated n f s) :=
  fun _ _ hs h => hf.repeatStep n.toNat hs (repeated_next.mp (configured_next.mp h).2).2

variable {g : State → State} (hg : ∀ s, s.cfg.Valid → P s → P (g s))
include hg

theorem always_keeps : Keeps P fun s => configured s (.next (g s)) := fun s _ hs h =>
  have ⟨hv, hr⟩ := configured_next.mp h
  Host.Outcome.next.inj hr ▸ hg s hv hs

theorem enabled_keeps (en : State → Bool) (flt : Fault) :
    Keeps P fun s => configured s (whenEnabled (en s) flt (.next (g s))) := fun s _ hs h =>
  have ⟨hv, hr⟩ := configured_next.mp h
  Host.Outcome.next.inj (whenEnabled_next.mp hr).2 ▸ hg s hv hs

theorem gsBehaviour_keeps (mode : GsState) : Keeps P (gsBehaviour mode g) :=
  enabled_keeps hg (fun s => s.gsState == mode) _

theorem mainBehaviour_keeps (c : CState) : Keeps P (mainBehaviour c g) := fun s _ hs h =>
  have ⟨hv, hr⟩ := configured_next.mp h
  have hloop := (whenEnabled_next.mp hr).2
  Host.Outcome.next.inj (whenEnabled_next.mp hloop).2 ▸ hg s hv hs

end

/-- Every instruction keeps every register in its width. -/
theorem exec_keeps_inRange (i : Instr) : Keeps State.InRange (exec i) := by
  have hclk : Keeps State.InRange execClk := always_keeps fun _ _ hs => clkStep_inRange hs
  have hpulse : Keeps State.InRange execPulse := always_keeps fun _ _ hs => pulseStep_inRange hs
  have hmain : Keeps State.InRange execMain :=
    enabled_keeps (fun _ hv hs => mainStep_inRange hs hv) mainEnabled _
  cases i with
  | clk => exact hclk
  | pulse => exact hpulse
  | main => exact hmain
  | clkRep n => exact hclk.repeatItem n
  | pulseRep n => exact hpulse.repeatItem n
  | mainRep n => exact hmain.repeatItem n
  | svcPa => exact enabled_keeps (fun _ _ hs => svcPaStep_inRange hs) svcPaEnabled _
  | svcGt => exact enabled_keeps (fun _ hv hs => svcGtStep_inRange hs hv) svcGtEnabled _
  | reset => exact always_keeps fun _ hv hs => resetStep_inRange hs hv
  | paStart => exact always_keeps fun _ _ hs => paStart_inRange hs
  | paStop => exact always_keeps fun _ _ hs => paStop_inRange hs
  | paRead => exact always_keeps fun _ _ hs => hs.returnNum (paRead_lt hs)
  | oeReset => exact always_keeps fun _ _ hs => oeReset_inRange hs
  | oeInc => exact always_keeps fun _ _ hs => oeInc_inRange hs
  | gtStart => exact always_keeps fun _ _ hs => gtStart_inRange hs
  | gtStop => exact always_keeps fun _ _ hs => gtStop_inRange hs
  | gtLoad => exact always_keeps fun _ hv hs => gtLoad_inRange hs hv
  | gsReset => exact always_keeps fun _ hv hs => gsReset_inRange hs hv
  | gsStep => exact always_keeps fun _ hv hs => gsStep_inRange hs hv
  | cycleRestart => exact always_keeps fun _ hv hs => cycleRestart_inRange hs hv
  | freqCombine => exact always_keeps fun _ _ hs => hs.returnNum (freqCombine_lt hs)
  | decFormat => exact always_keeps fun _ _ hs => hs.returnText (legalText_decFormat hs.benchNum)
  | dispClear => exact always_keeps fun _ _ hs => dispClear_inRange hs
  | dispWrite => exact always_keeps fun _ _ hs => dispWrite_inRange hs hs.benchText
  | gsStepCounting => exact gsBehaviour_keeps (fun _ hv hs => gsStepCounting_inRange hs hv) _
  | gsStepLastInterval => exact gsBehaviour_keeps (fun _ _ hs => gsStepLastInterval_inRange hs) _
  | gsStepComplete => exact gsBehaviour_keeps (fun _ _ hs => hs) _
  | mainBoot => exact mainBehaviour_keeps (fun _ _ hs => hs.setCState .restart) _
  | mainPoll => exact mainBehaviour_keeps (fun _ _ hs => mainPoll_inRange hs) _
  | mainLatch => exact mainBehaviour_keeps (fun _ _ hs => mainLatch_inRange hs) _
  | mainClear => exact mainBehaviour_keeps (fun _ _ hs => mainClear_inRange hs) _
  | mainWrite => exact mainBehaviour_keeps (fun _ _ hs => mainWrite_inRange hs) _
  | mainRestart => exact mainBehaviour_keeps (fun _ hv hs => mainRestart_inRange hs hv) _

/-- Settles O18: every operation writes values of its register's width. -/
theorem registersStayInRange : Obligations.RegistersStayInRange := fun i _ _ hs h =>
  exec_keeps_inRange i hs h

/-! ### The six trace steps, read from `exec` (R17) -/

section
variable {s t : State}

theorem exec_clk_next : exec .clk s = .next t ↔ s.cfg.Valid ∧ clkStep s = t := by
  rw [exec, execClk, configured_next, Host.Outcome.next.injEq]

theorem exec_pulse_next : exec .pulse s = .next t ↔ s.cfg.Valid ∧ pulseStep s = t := by
  rw [exec, execPulse, configured_next, Host.Outcome.next.injEq]

theorem exec_svcPa_next :
    exec .svcPa s = .next t ↔ s.cfg.Valid ∧ svcPaEnabled s = true ∧ svcPaStep s = t := by
  rw [exec, execSvcPa, configured_next, whenEnabled_next, Host.Outcome.next.injEq]

theorem exec_svcGt_next :
    exec .svcGt s = .next t ↔ s.cfg.Valid ∧ svcGtEnabled s = true ∧ svcGtStep s = t := by
  rw [exec, execSvcGt, configured_next, whenEnabled_next, Host.Outcome.next.injEq]

theorem exec_main_next :
    exec .main s = .next t ↔ s.cfg.Valid ∧ mainEnabled s = true ∧ mainStep s = t := by
  rw [exec, execMain, configured_next, mainLoop, whenEnabled_next, Host.Outcome.next.injEq]

theorem exec_reset_next : exec .reset s = .next t ↔ s.cfg.Valid ∧ resetStep s = t := by
  rw [exec, execReset, configured_next, Host.Outcome.next.injEq]

end

/-! ### What a hardware event may do to a unit -/

/-- `v` is `u` with another count, and with a new event only where `u` counts and wrapped to 0. -/
def CountUnit.Counted (u v : CountUnit) : Prop :=
  ∃ n o, v = { u with cnt := n, ovf := o } ∧ (o = u.ovf ∨ (o = true ∧ n = 0 ∧ u.en = true))

theorem CountUnit.Counted.refl (u : CountUnit) : u.Counted u := ⟨u.cnt, u.ovf, rfl, .inl rfl⟩

theorem CountUnit.clocked_counted (src : ClockSource) (w : Nat) (u : CountUnit) :
    u.Counted (u.clocked src w) := by
  unfold CountUnit.clocked CountUnit.count
  split
  case isFalse => exact .refl u
  case isTrue hrun =>
    split
    · exact ⟨0, true, rfl, .inr ⟨rfl, rfl, hrun.1⟩⟩
    · exact ⟨u.cnt + 1, u.ovf, rfl, .inl rfl⟩

/-- `CLK` writes the units' counts and events, and `PRE_CNT`. -/
theorem clkStep_counted (s : State) : ∃ p g n,
    clkStep s = { s with pa := p, gt := g, preCnt := n } ∧ s.pa.Counted p ∧ s.gt.Counted g := by
  cases h : atTick s with
  | true =>
    exact ⟨_, _, _, clkStep_tick h, CountUnit.clocked_counted .., CountUnit.clocked_counted ..⟩
  | false => exact ⟨_, _, _, clkStep_no_tick h, .refl _, .refl _⟩

/-- `PULSE` writes the units' counts and events. -/
theorem pulseStep_counted (s : State) : ∃ p g,
    pulseStep s = { s with pa := p, gt := g } ∧ s.pa.Counted p ∧ s.gt.Counted g :=
  ⟨_, _, pulseStep_eq s, CountUnit.clocked_counted .., CountUnit.clocked_counted ..⟩

/-! ### Ownership of the fields (R41) -/

/-- What a counted unit says of its event, for the ownership table. -/
theorem CountUnit.Counted.fields {u v : CountUnit} (h : u.Counted v) :
    ∃ n o, v = { u with cnt := n, ovf := o } ∧ (o = u.ovf ∨ (o = true ∧ n = 0)) := by
  obtain ⟨n, o, hv, ho⟩ := h
  exact ⟨n, o, hv, ho.imp_right fun ⟨hset, hwrap, _⟩ => ⟨hset, hwrap⟩⟩

/-- `SVC_GT` clears its event; the units stop, and the flag is set, in `LAST_INTERVAL` alone, and the
Gate Timer's count is loaded in `COUNTING` alone. -/
theorem svcGtStep_ownership (s : State) : ∃ pe gn ge r g d,
    svcGtStep s = { s with
      pa := { s.pa with en := pe }, gt := { s.gt with cnt := gn, en := ge, ovf := false },
      gsRemain := r, gsState := g, dataReady := d } ∧
    (s.gsState = .lastInterval → pe = false ∧ ge = false ∧ d = true) ∧
    (s.gsState ≠ .lastInterval → pe = s.pa.en ∧ ge = s.gt.en ∧ d = s.dataReady) ∧
    (s.gsState ≠ .counting → gn = s.gt.cnt) := by
  obtain ⟨hg, e⟩ | ⟨hg, e⟩ | ⟨hg, e⟩ := svcGtStep_cases s
  · have hlast : s.gsState ≠ .lastInterval := by simp [hg]
    rw [e]
    obtain ⟨-, e'⟩ | ⟨-, e'⟩ := gsStepCounting_cases (s.setGt { s.gt with ovf := false })
    all_goals
      exact ⟨_, _, _, _, _, _, e', fun h => absurd h hlast, fun _ => ⟨rfl, rfl, rfl⟩,
        fun h => absurd hg h⟩
  · exact ⟨false, s.gt.cnt, false, s.gsRemain, .complete, true, e, fun _ => ⟨rfl, rfl, rfl⟩,
      fun h => absurd hg h, fun _ => rfl⟩
  · exact ⟨s.pa.en, s.gt.cnt, s.gt.en, s.gsRemain, s.gsState, s.dataReady, e,
      fun h => by simp [hg] at h,
      fun _ => ⟨rfl, rfl, rfl⟩, fun _ => rfl⟩

/-- `MAIN` in `C_POLL` goes on to the latch where the flag is set and has no effect elsewhere. -/
theorem mainPoll_cases (s : State) :
    (s.dataReady = true ∧ mainPoll s = { s with cState := .latch }) ∨
    (s.dataReady = false ∧ mainPoll s = s) := by
  unfold mainPoll
  split
  case isTrue h => exact .inl ⟨h, rfl⟩
  case isFalse h => exact .inr ⟨Bool.eq_false_of_not_eq_true h, rfl⟩

/-- `MAIN` before the restart writes the controller's own fields; the flag and `FREQ` in `C_LATCH`
alone. -/
theorem mainStep_ownership {s : State} (hc : s.cState ≠ .restart) : ∃ d f c l,
    mainStep s = { s with dataReady := d, freq := f, cState := c, dispLog := l } ∧
    (s.cState = .latch → d = false) ∧ (s.cState ≠ .latch → d = s.dataReady ∧ f = s.freq) := by
  unfold mainStep
  cases h : s.cState with
  | boot | clear | write => exact ⟨_, _, _, _, rfl, nofun, fun _ => ⟨rfl, rfl⟩⟩
  | poll =>
    obtain ⟨-, e⟩ | ⟨-, e⟩ := mainPoll_cases s
    · exact ⟨_, _, _, _, e, nofun, fun _ => ⟨rfl, rfl⟩⟩
    · exact ⟨s.dataReady, s.freq, s.cState, s.dispLog, e, nofun, fun _ => ⟨rfl, rfl⟩⟩
  | latch => exact ⟨_, _, _, _, mainLatch_eq s, fun _ => rfl, fun hne => absurd rfl hne⟩
  | restart => exact absurd h hc

/-- Settles O46: each step's effect as one update of the state, field by field. -/
theorem domainOwnership : Obligations.DomainOwnership := by
  refine ⟨fun s t h => ?clk, fun s t h => ?pulse, fun s t h => ?svcPa, fun s t h => ?svcGt,
    fun s t h hc => ?main, fun s t h hc => ?restart⟩ <;> rw [take_some] at h
  case clk =>
    obtain ⟨-, rfl⟩ := exec_clk_next.mp h
    obtain ⟨p, g, n, e, hp, hg⟩ := clkStep_counted s
    obtain ⟨pn, po, rfl, hpo⟩ := hp.fields
    obtain ⟨gn, go, rfl, hgo⟩ := hg.fields
    exact ⟨pn, po, gn, go, n, e, hpo, hgo⟩
  case pulse =>
    obtain ⟨-, rfl⟩ := exec_pulse_next.mp h
    obtain ⟨p, g, e, hp, hg⟩ := pulseStep_counted s
    obtain ⟨pn, po, rfl, hpo⟩ := hp.fields
    obtain ⟨gn, go, rfl, hgo⟩ := hg.fields
    exact ⟨pn, po, gn, go, e, hpo, hgo⟩
  case svcPa =>
    obtain ⟨-, -, rfl⟩ := exec_svcPa_next.mp h
    exact ⟨_, svcPaStep_eq s⟩
  case svcGt =>
    obtain ⟨-, -, rfl⟩ := exec_svcGt_next.mp h
    exact svcGtStep_ownership s
  case main =>
    obtain ⟨-, -, rfl⟩ := exec_main_next.mp h
    exact mainStep_ownership hc
  case restart =>
    obtain ⟨-, -, rfl⟩ := exec_main_next.mp h
    rw [mainStep, hc, mainRestart_eq, cycleRestart_eq]
    exact ⟨rfl, rfl, rfl, rfl, rfl, rfl, rfl, rfl, rfl, rfl, rfl, rfl, rfl⟩

/-! ### The invariant after reset (R45, R46) -/

/-- Settles O43: the reset state in DEFAULT, with its budget of 76 overflows. -/
theorem resetValues : Obligations.ResetValues := by
  have hbudget : State.reset.gsRemain = 76 := by decide
  exact ⟨rfl, rfl, rfl, rfl, rfl, hbudget, rfl, rfl, rfl, rfl, rfl⟩

theorem GsState.toNat_bits_le (g : GsState) : g.bits.toNat ≤ 2 := by
  cases g <;> decide

theorem CState.toNat_bits_le (c : CState) : c.bits.toNat ≤ 5 := by
  cases c <;> decide

theorem resetOf_r46 {c : Config} (hv : c.Valid) : (State.resetOf c).R46 where
  gsLegal := GsState.toNat_bits_le _
  cLegal := CState.toNat_bits_le _
  paSource := nofun
  gtSource := nofun
  lockstep := rfl
  ready := nofun
  stopped := nofun
  remaining _ := by
    obtain ⟨-, -, -, -, -, -, hbudget, -⟩ := hv
    exact ⟨hbudget, Nat.le_refl _⟩
  spent := nofun

theorem resetOf_scheduled (c : Config) : (State.resetOf c).Scheduled where
  runsInPoll := nofun
  eventRuns := nofun
  paListens := nofun
  gtListens := nofun
  lastRuns := nofun
  pollWaits := nofun
  logged := rfl

theorem resetOf_inv {c : Config} (hv : c.Valid) : (State.resetOf c).Inv :=
  ⟨hv, rfl, resetOf_inRange hv, resetOf_r46 hv, resetOf_scheduled c⟩

/-- Settles O44: nothing runs, nothing is pending and the log is empty. -/
theorem invariantHoldsAtReset : Obligations.InvariantHoldsAtReset :=
  ⟨resetOf_inv (c := .default) (by decide), fun _ hv => resetOf_inv hv⟩

/-! ### The invariant kept by the trace steps (R46) -/

/-- A log of a shape, read on. -/
theorem logShape_append {a b : Bool} {l : List DispEvent} (h : logShape a l = some b)
    (l' : List DispEvent) : logShape a (l ++ l') = logShape b l' := by
  fun_induction logShape a l with
  | case1 => rw [List.nil_append, Option.some.inj h]
  | case2 _ _ ih | case3 _ _ ih => exact ih h
  | case4 | case5 => cases h

/-- The parts of the invariant that say how the fields go together. They are kept together: the
proofs for the service steps and for `MAIN` use facts of both. -/
structure State.Orderly (s : State) : Prop where
  r46 : s.R46
  scheduled : s.Scheduled

section
variable {s : State} (h : s.Orderly)
include h

/-- A Gate Timer event is pending only while both units run. -/
theorem State.Orderly.pa_runs (hovf : s.gt.ovf = true) : s.pa.en = true :=
  h.r46.lockstep.trans (h.scheduled.eventRuns hovf)

/-- The units run only while the controller polls. -/
theorem State.Orderly.pa_stopped (hc : s.cState ≠ .poll) : s.pa.en = false :=
  Bool.eq_false_of_not_eq_true fun hen => hc (h.scheduled.runsInPoll hen)

/-- The flag is set only after the gate has closed. -/
theorem State.Orderly.not_ready_of_gate (hg : s.gsState ≠ .complete) : s.dataReady = false :=
  Bool.eq_false_of_not_eq_true fun hd => hg (h.r46.ready hd).1

/-- The flag is set only until the controller has latched the count. -/
theorem State.Orderly.not_ready_of_controller (hp : s.cState ≠ .poll) (hl : s.cState ≠ .latch) :
    s.dataReady = false := by
  refine Bool.eq_false_of_not_eq_true fun hd => ?_
  obtain ⟨-, -, -, hc⟩ := h.r46.ready hd
  exact hc.elim hp hl

/-! #### Hardware events -/

/-- Counts, and new events of running units, change nothing the invariant says. -/
theorem State.Orderly.counted {p g : CountUnit} (n : Nat) (hp : s.pa.Counted p) (hg : s.gt.Counted g) :
    ({ s with pa := p, gt := g, preCnt := n } : State).Orderly := by
  obtain ⟨h46, hsch⟩ := h
  obtain ⟨pn, po, rfl, -⟩ := hp
  obtain ⟨gn, go, rfl, hgo⟩ := hg
  refine ⟨{ h46 with }, { hsch with eventRuns := fun hovf => ?_ }⟩
  obtain hkept | ⟨-, -, hrun⟩ := hgo
  · exact hsch.eventRuns (hkept ▸ hovf)
  · exact hrun

theorem clkStep_orderly : (clkStep s).Orderly := by
  obtain ⟨p, g, n, e, hp, hg⟩ := clkStep_counted s
  exact e ▸ h.counted n hp hg

theorem pulseStep_orderly : (pulseStep s).Orderly := by
  obtain ⟨p, g, e, hp, hg⟩ := pulseStep_counted s
  exact e ▸ h.counted s.preCnt hp hg

/-! #### Interrupt domain -/

theorem svcPaStep_orderly : (svcPaStep s).Orderly := ⟨{ h.r46 with }, { h.scheduled with }⟩

theorem State.Orderly.acknowledgeGt : (s.setGt { s.gt with ovf := false }).Orderly :=
  ⟨{ h.r46 with }, { h.scheduled with eventRuns := nofun }⟩

/-- `GS_STEP` in `COUNTING` takes one from the remaining overflows, and nothing remains exactly in
the last interval. -/
theorem gsStepCounting_orderly (hs : s.InRange) (hg : s.gsState = .counting)
    (hrun : s.pa.en = true) : (gsStepCounting s).Orderly := by
  have hready : s.dataReady ≠ true := by simp [h.not_ready_of_gate (by simp [hg])]
  obtain ⟨h46, hsch⟩ := h
  obtain ⟨hpos, hle⟩ := h46.remaining hg
  have hdec : subMod s.cfg.wb s.gsRemain 1 = s.gsRemain - 1 := subMod_one_of_pos hpos hs.gsRemain
  obtain ⟨-, e⟩ | ⟨hne, e⟩ := gsStepCounting_cases s
  · have h46' : State.R46 { s with
        gsRemain := 0, gt := { s.gt with cnt := s.cfg.gatePreload }, gsState := .lastInterval } :=
      { h46 with
        gsLegal := GsState.toNat_bits_le _
        ready := fun hd => absurd hd hready
        stopped := nofun
        remaining := nofun
        spent := fun _ => rfl }
    exact e ▸ ⟨h46', { hsch with lastRuns := fun _ => hrun }⟩
  · rw [hdec] at hne e
    have hrest : 1 ≤ s.gsRemain - 1 ∧ s.gsRemain - 1 ≤ s.cfg.gateBudget := by omega
    have hlast : s.gsState ≠ .lastInterval := by simp [hg]
    exact e ▸ ⟨{ h46 with remaining := fun _ => hrest, spent := fun hl => absurd hl hlast },
      { hsch with }⟩

/-- `GS_STEP` in `LAST_INTERVAL`, its event cleared: both units stop and the poll has its flag. -/
theorem gsStepLastInterval_orderly (hovf : s.gt.ovf = false) (hrun : s.pa.en = true) :
    (gsStepLastInterval s).Orderly := by
  obtain ⟨h46, hsch⟩ := h
  have h46' : (gsStepLastInterval s).R46 :=
    { h46 with
      gsLegal := GsState.toNat_bits_le _
      paSource := nofun
      gtSource := nofun
      lockstep := rfl
      ready := fun _ => ⟨rfl, rfl, rfl, .inl (hsch.runsInPoll hrun)⟩
      stopped := fun _ => ⟨rfl, rfl⟩
      remaining := nofun
      spent := nofun }
  have hsch' : (gsStepLastInterval s).Scheduled :=
    { hsch with
      runsInPoll := nofun
      eventRuns := fun ho => absurd (hovf.symm.trans ho) Bool.false_ne_true
      paListens := nofun
      gtListens := nofun
      lastRuns := nofun
      pollWaits := fun _ => .inr rfl }
  exact ⟨h46', hsch'⟩

/-- `SVC_GT` comes while the units run, so not in `COMPLETE`. -/
theorem svcGtStep_orderly (hs : s.InRange) (hen : svcGtEnabled s = true) : (svcGtStep s).Orderly := by
  have hrun : s.pa.en = true := h.pa_runs (Bool.and_eq_true_iff.mp hen).1
  have hack := h.acknowledgeGt
  obtain ⟨hg, e⟩ | ⟨-, e⟩ | ⟨hg, -⟩ := svcGtStep_cases s
  · exact e ▸ gsStepCounting_orderly hack (hs.setGt hs.gtCnt) hg hrun
  · exact e ▸ gsStepLastInterval_orderly hack rfl hrun
  · exact absurd (hrun.symm.trans (h.r46.stopped hg).1) (by decide)

/-! #### Main loop -/

/-- The controller moves on with both units stopped and the flag clear. -/
theorem State.Orderly.control {d : Bool} {c : CState} {l : List DispEvent} (f : Nat)
    (hstop : s.pa.en = false) (hd : d = false) (hc : c ≠ .poll)
    (hl : logShape false l = some (c == .write)) :
    ({ s with dataReady := d, freq := f, cState := c, dispLog := l } : State).Orderly := by
  obtain ⟨h46, hsch⟩ := h
  subst hd
  refine ⟨{ h46 with cLegal := CState.toNat_bits_le c, ready := nofun }, { hsch with
    runsInPoll := fun hen => ?_
    pollWaits := fun hp => absurd hp hc
    logged := hl }⟩
  exact absurd (hstop.symm.trans hen) Bool.false_ne_true

/-- No clear-line waits for its write-string except in `C_WRITE`. -/
theorem State.Orderly.log_complete (hc : s.cState ≠ .write) :
    logShape false s.dispLog = some false := by
  rw [h.scheduled.logged, beq_eq_false_iff_ne.mpr hc]

theorem mainBoot_orderly (hc : s.cState = .boot) : (mainBoot s).Orderly :=
  h.control s.freq (h.pa_stopped (by simp [hc]))
    (h.not_ready_of_controller (by simp [hc]) (by simp [hc])) nofun (h.log_complete (by simp [hc]))

theorem mainPoll_orderly (hc : s.cState = .poll) : (mainPoll s).Orderly := by
  obtain ⟨hd, e⟩ | ⟨-, e⟩ := mainPoll_cases s
  case inr => rwa [e]
  case inl =>
    have hlog := h.log_complete (by simp [hc])
    obtain ⟨h46, hsch⟩ := h
    obtain ⟨hgs, hpa, hgt, -⟩ := h46.ready hd
    rw [e]
    refine ⟨{ h46 with
      cLegal := CState.toNat_bits_le _
      ready := fun _ => ⟨hgs, hpa, hgt, .inr rfl⟩ }, { hsch with
      runsInPoll := fun hen => ?_
      pollWaits := nofun
      logged := hlog }⟩
    exact absurd (hpa.symm.trans hen) Bool.false_ne_true

theorem mainLatch_orderly (hc : s.cState = .latch) : (mainLatch s).Orderly :=
  h.control (freqCombine s) (h.pa_stopped (by simp [hc])) rfl nofun (h.log_complete (by simp [hc]))

theorem mainClear_orderly (hc : s.cState = .clear) : (mainClear s).Orderly :=
  h.control s.freq (h.pa_stopped (by simp [hc]))
    (h.not_ready_of_controller (by simp [hc]) (by simp [hc])) nofun
    (logShape_append (h.log_complete (by simp [hc])) _)

theorem mainWrite_orderly (hc : s.cState = .write) : (mainWrite s).Orderly :=
  have hlog : logShape false s.dispLog = some true := by rw [h.scheduled.logged, hc]; rfl
  h.control s.freq (h.pa_stopped (by simp [hc]))
    (h.not_ready_of_controller (by simp [hc]) (by simp [hc])) nofun (logShape_append hlog _)

/-- `CYCLE_RESTART` sets every field the invariant speaks of but the log. -/
theorem mainRestart_orderly (hv : s.cfg.Valid) (hc : s.cState = .restart) :
    (mainRestart s).Orderly := by
  obtain ⟨-, -, -, -, -, -, hbudget, -⟩ := hv
  have h46 : (mainRestart s).R46 :=
    { gsLegal := GsState.toNat_bits_le _
      cLegal := CState.toNat_bits_le _
      paSource := fun _ => rfl
      gtSource := fun _ => rfl
      lockstep := rfl
      ready := nofun
      stopped := nofun
      remaining := fun _ => ⟨hbudget, Nat.le_refl _⟩
      spent := nofun }
  have hsch : (mainRestart s).Scheduled :=
    { runsInPoll := fun _ => rfl
      eventRuns := nofun
      paListens := fun _ => rfl
      gtListens := fun _ => rfl
      lastRuns := nofun
      pollWaits := fun _ => .inl rfl
      logged := h.log_complete (by simp [hc]) }
  exact ⟨h46, hsch⟩

theorem mainStep_orderly (hv : s.cfg.Valid) : (mainStep s).Orderly := by
  unfold mainStep
  cases hc : s.cState with
  | boot => exact mainBoot_orderly h hc
  | poll => exact mainPoll_orderly h hc
  | latch => exact mainLatch_orderly h hc
  | clear => exact mainClear_orderly h hc
  | write => exact mainWrite_orderly h hc
  | restart => exact mainRestart_orderly h hv hc

end

theorem resetStep_orderly {s : State} (hv : s.cfg.Valid) : (resetStep s).Orderly :=
  ⟨{ resetOf_r46 hv with }, { resetOf_scheduled s.cfg with }⟩

/-! ### From the six steps to the machine's step -/

/-- The six steps keep the order of the fields. -/
theorem exec_step_orderly {st : TraceStep} {s t : State} (h : s.Orderly) (hs : s.InRange)
    (ht : exec st.instr s = .next t) : t.Orderly := by
  cases st with
  | clk =>
    obtain ⟨-, rfl⟩ := exec_clk_next.mp ht
    exact clkStep_orderly h
  | pulse =>
    obtain ⟨-, rfl⟩ := exec_pulse_next.mp ht
    exact pulseStep_orderly h
  | svcPa =>
    obtain ⟨-, -, rfl⟩ := exec_svcPa_next.mp ht
    exact svcPaStep_orderly h
  | svcGt =>
    obtain ⟨-, hen, rfl⟩ := exec_svcGt_next.mp ht
    exact svcGtStep_orderly h hs hen
  | main =>
    obtain ⟨hv, -, rfl⟩ := exec_main_next.mp ht
    exact mainStep_orderly h hv
  | reset =>
    obtain ⟨hv, rfl⟩ := exec_reset_next.mp ht
    exact resetStep_orderly hv

theorem exec_step_keeps_inv (st : TraceStep) : Keeps State.Inv (exec st.instr) := by
  intro s t h ht
  obtain ⟨hv, hreq, hs, h46, hsch⟩ := h
  obtain ⟨h46', hsch'⟩ := exec_step_orderly ⟨h46, hsch⟩ hs ht
  exact ⟨exec_next_cfg ht ▸ hv, ((exec_leavesModelFields st.instr).stimulus_eq ht).2.trans hreq,
    exec_keeps_inRange st.instr hs ht, h46', hsch'⟩

theorem decodeRepeat_ok {st : TraceStep} {b0 : Byte} {bs rest : List Byte} {i : Instr}
    (h : decodeRepeat st b0 bs = .ok (i, rest)) : ∃ n, repeatInstr st n = some i := by
  unfold decodeRepeat at h
  split at h
  case h_2 => cases h
  case h_1 b1 b2 b3 _ =>
    split at h
    · cases h
    next j hj =>
      split at h
      · cases h
      · cases h
        exact ⟨_, hj⟩

/-- An item of a trace is a step, or a step's repeat form (R82, R83). -/
theorem decodeItem_ok {bs rest : List Byte} {i : Instr} (h : decodeItem bs = .ok (i, rest)) :
    ∃ st, i = st.instr ∨ ∃ n, repeatInstr st n = some i := by
  cases bs with
  | nil => cases h
  | cons b0 bs =>
    rw [decodeItem] at h
    split at h
    case isTrue => cases h
    case isFalse =>
      split at h
      case h_1 => cases h
      case h_2 st _ =>
        refine ⟨st, ?_⟩
        split at h
        · exact .inr (decodeRepeat_ok h)
        · cases h
          exact .inl rfl

/-- The meaning of a repeat form is its step's, repeated. -/
theorem exec_repeatInstr {st : TraceStep} {n : Count24} {i : Instr} (h : repeatInstr st n = some i) :
    exec i = fun s => configured s (repeated n (exec st.instr) s) := by
  cases st with
  | clk | pulse | main =>
    cases h
    rfl
  | svcPa | svcGt | reset => cases h

/-- What each of the six steps keeps, every item of a trace keeps. -/
theorem exec_item_keeps {P : State → Prop} (hP : ∀ st : TraceStep, Keeps P (exec st.instr))
    {bs rest : List Byte} {i : Instr} (h : decodeItem bs = .ok (i, rest)) : Keeps P (exec i) := by
  obtain ⟨st, rfl | ⟨n, hn⟩⟩ := decodeItem_ok h
  · exact hP st
  · rw [exec_repeatInstr hn]
    exact (hP st).repeatItem n

theorem State.Inv.setTrace {s : State} (h : s.Inv) (bs : List Byte) : (s.setTrace bs).Inv :=
  { h with inRange := { h.inRange with }, r46 := { h.r46 with }, scheduled := { h.scheduled with } }

/-- Settles O45: with no request a step takes an item of the trace, and every item keeps the
invariant because the six steps do. -/
theorem invariantKeptByEveryStep : Obligations.InvariantKeptByEveryStep := by
  intro s t h ht
  obtain ⟨i, u, hfetch, hexec⟩ := step_next ht
  obtain ⟨c, hreq, -⟩ | ⟨-, -, rest, hitem, rfl⟩ := fetch_next hfetch
  · exact absurd (hreq.symm.trans h.noRequest) (Option.some_ne_none c)
  · exact exec_item_keeps exec_step_keeps_inv hitem (h.setTrace rest) hexec

end Machine
end Sys2Proof
end

section
/-! ## The counts after the gate (R71)

With both units disabled, hardware events count nothing, so only `SVC_PA` still reaches the count:
it takes the wrap that was pending when the gate closed. -/

namespace Sys2Proof
namespace Machine

/-! ### Both units disabled -/

/-- A disabled unit counts no event. -/
theorem CountUnit.clocked_of_disabled {u : CountUnit} (h : u.en = false) (src : ClockSource) (w : Nat) :
    u.clocked src w = u :=
  if_neg fun hrun => absurd (h.symm.trans hrun.1) Bool.false_ne_true

/-- The gate is closed: both units are disabled and the Gate Timer has no event pending. The Pulse
Accumulator may have one. -/
structure State.GateClosed (s : State) : Prop where
  paStopped : s.pa.en = false
  gtStopped : s.gt.en = false
  noGateEvent : s.gt.ovf = false

/-- The flag is set only after the gate has closed (R71). -/
theorem State.Inv.gateClosed {s : State} (h : s.Inv) (hready : s.dataReady = true) :
    s.GateClosed := by
  obtain ⟨-, hpa, hgt, -⟩ := h.r46.ready hready
  refine ⟨hpa, hgt, Bool.eq_false_of_not_eq_true fun hovf => ?_⟩
  exact absurd (hgt.symm.trans (h.scheduled.eventRuns hovf)) Bool.false_ne_true

section
variable {s : State} (h : s.GateClosed)
include h

/-- `PULSE` has no effect. -/
theorem pulseStep_of_gateClosed : pulseStep s = s := by
  rw [pulseStep_eq, CountUnit.clocked_of_disabled h.paStopped,
    CountUnit.clocked_of_disabled h.gtStopped]

/-- `CLK` turns only the prescaler. -/
theorem clkStep_of_gateClosed : ∃ n, clkStep s = { s with preCnt := n } := by
  cases htick : atTick s with
  | true =>
    rw [clkStep_tick htick, CountUnit.clocked_of_disabled h.paStopped,
      CountUnit.clocked_of_disabled h.gtStopped]
    exact ⟨0, rfl⟩
  | false => exact ⟨_, clkStep_no_tick htick⟩

/-- `SVC_GT` is not enabled. -/
theorem svcGtEnabled_of_gateClosed : svcGtEnabled s = false := by
  rw [svcGtEnabled, CountUnit.serviceable, h.noGateEvent, Bool.false_and]

end

/-! ### What may still happen to the counts -/

/-- From `s` to `t` the count stays, and the tally and the pending wrap do too, or that wrap went
into the tally. -/
structure CountsStay (s t : State) : Prop where
  cfg : t.cfg = s.cfg
  cnt : t.pa.cnt = s.pa.cnt
  tally : (t.pa.ovf = s.pa.ovf ∧ t.ovfTally = s.ovfTally) ∨
    (s.pa.ovf = true ∧ t.pa.ovf = false ∧ t.ovfTally = addMod s.cfg.w2 s.ovfTally 1)

/-- Steps that write none of these fields. -/
theorem CountsStay.of_eq {s t : State} (hcfg : t.cfg = s.cfg) (hpa : t.pa = s.pa)
    (htally : t.ovfTally = s.ovfTally) : CountsStay s t :=
  ⟨hcfg, by rw [hpa], .inl ⟨by rw [hpa], htally⟩⟩

/-- The wrap is taken once: nothing sets the pending bit again. -/
theorem CountsStay.trans {s t u : State} (h : CountsStay s t) (h' : CountsStay t u) :
    CountsStay s u := by
  obtain ⟨hcfg, hcnt, htally⟩ := h
  obtain ⟨hcfg', hcnt', htally'⟩ := h'
  refine ⟨hcfg'.trans hcfg, hcnt'.trans hcnt, ?_⟩
  obtain ⟨ho, hn⟩ | ⟨hset, hclr, hn⟩ := htally <;>
    obtain ⟨ho', hn'⟩ | ⟨hset', hclr', hn'⟩ := htally'
  · exact .inl ⟨ho'.trans ho, hn'.trans hn⟩
  · exact .inr ⟨ho ▸ hset', hclr', by rw [hn', hcfg, hn]⟩
  · exact .inr ⟨hset, ho'.trans hclr, hn'.trans hn⟩
  · exact absurd (hclr.symm.trans hset') Bool.false_ne_true

/-- No step before the restart opens the gate or does more to the counts. -/
theorem take_gateClosed {st : TraceStep} {s t : State} (h : s.GateClosed) (ht : take st s = some t)
    (hreset : st ≠ .reset) (hrestart : st = .main → s.cState ≠ .restart) :
    t.GateClosed ∧ CountsStay s t := by
  have ⟨hpa, hgt, hovf⟩ := h
  rw [take_some] at ht
  cases st with
  | clk =>
    obtain ⟨-, rfl⟩ := exec_clk_next.mp ht
    obtain ⟨n, e⟩ := clkStep_of_gateClosed h
    rw [e]
    exact ⟨⟨hpa, hgt, hovf⟩, .of_eq rfl rfl rfl⟩
  | pulse =>
    obtain ⟨-, rfl⟩ := exec_pulse_next.mp ht
    rw [pulseStep_of_gateClosed h]
    exact ⟨h, .of_eq rfl rfl rfl⟩
  | svcPa =>
    obtain ⟨-, hen, rfl⟩ := exec_svcPa_next.mp ht
    have hwrap : s.pa.ovf = true := (Bool.and_eq_true_iff.mp hen).1
    exact ⟨⟨hpa, hgt, hovf⟩, rfl, rfl, .inr ⟨hwrap, rfl, rfl⟩⟩
  | svcGt =>
    obtain ⟨-, hen, -⟩ := exec_svcGt_next.mp ht
    exact absurd ((svcGtEnabled_of_gateClosed h).symm.trans hen) Bool.false_ne_true
  | main =>
    obtain ⟨-, -, rfl⟩ := exec_main_next.mp ht
    obtain ⟨d, f, c, l, e, -, -⟩ := mainStep_ownership (hrestart rfl)
    rw [e]
    exact ⟨⟨hpa, hgt, hovf⟩, .of_eq rfl rfl rfl⟩
  | reset => exact absurd rfl hreset

/-! ### Executions within a cycle -/

/-- An execution within a cycle begins with no `RESET` and no restart, and goes on within the
cycle. -/
theorem withinCycle_cons {st : TraceStep} {rest : List TraceStep} {s t : State}
    (ht : take st s = some t) :
    withinCycle (st :: rest) s = true ↔
      st ≠ .reset ∧ (st = .main → s.cState ≠ .restart) ∧ withinCycle rest t = true := by
  simp [withinCycle, ht, and_assoc, imp_iff_not_or]

/-- The induction over the steps of the cycle. -/
theorem runSteps_gateClosed {steps : List TraceStep} {s t : State} (h : s.GateClosed)
    (hcycle : withinCycle steps s = true) (ht : runSteps steps s = some t) :
    t.GateClosed ∧ CountsStay s t := by
  induction steps generalizing s with
  | nil =>
    cases ht
    exact ⟨h, .of_eq rfl rfl rfl⟩
  | cons st rest ih =>
    obtain ⟨u, hu, ht⟩ := runSteps_cons.mp ht
    obtain ⟨hreset, hrestart, hcycle⟩ := (withinCycle_cons hu).mp hcycle
    obtain ⟨hclosed, hfirst⟩ := take_gateClosed h hu hreset hrestart
    obtain ⟨hclosed', hrest⟩ := ih hclosed hcycle ht
    exact ⟨hclosed', hfirst.trans hrest⟩

/-- Settles O48: the flag means a closed gate, and a closed gate stays closed, with its counts, until
the restart. -/
theorem countsStayAfterDataReady : Obligations.CountsStayAfterDataReady := by
  intro s t steps hinv hready hcycle ht
  obtain ⟨⟨hpa, hgt, hovf⟩, -, hcnt, htally⟩ :=
    runSteps_gateClosed (hinv.gateClosed hready) hcycle ht
  refine ⟨hcnt, hpa, hgt, hovf, ?_⟩
  obtain ⟨ho, hn⟩ | ⟨hset, hclr, hn⟩ := htally
  · exact ⟨fun hpend => ho ▸ hpend, .inl hn⟩
  · exact ⟨fun _ => hset, .inr ⟨hset, hclr, hn⟩⟩

end Machine
end Sys2Proof
end
-- The encoding family, part one (30_encoding.md R81 to R87): which bytes are items, and that
-- decoding and encoding undo each other.
section
namespace Sys2Proof

/-! ### Fields and counts as numbers (R81, R83) -/

theorem repField_iff (b : Byte) : repField b = true ↔ 128 ≤ b.toNat := by
  have h : repField b = decide (2 ^ (8 - 1) ≤ b.toNat) := BitVec.msb_eq_decide b
  rw [h, decide_eq_true_iff]
  rfl

theorem clsField_toNat (b : Byte) : (clsField b).toNat = b.toNat / 16 % 8 := by
  rw [clsField, BitVec.extractLsb'_toNat, Nat.shiftRight_eq_div_pow]

theorem opField_toNat (b : Byte) : (opField b).toNat = b.toNat % 16 := by
  rw [opField, BitVec.extractLsb'_toNat, Nat.shiftRight_zero]

/-- The count of a format R item is unsigned, its bytes least significant first. -/
theorem joinCount_toNat (b1 b2 b3 : Byte) :
    (joinCount b1 b2 b3).toNat = b1.toNat + 256 * b2.toNat + 65536 * b3.toNat := by
  have h1 := b1.isLt
  have h2 := b2.isLt
  rw [joinCount, BitVec.toNat_append, BitVec.toNat_append,
    ← Nat.shiftLeft_add_eq_or_of_lt (by omega), ← Nat.shiftLeft_add_eq_or_of_lt (by omega)]
  simp only [Nat.shiftLeft_eq]
  omega

theorem countByte_toNat (n : Count24) (k : Nat) :
    (countByte n k).toNat = n.toNat / 2 ^ (8 * k) % 256 := by
  rw [countByte, BitVec.extractLsb'_toNat, Nat.shiftRight_eq_div_pow]

/-- The bytes a count was joined from are its bytes. -/
theorem countBytes_joinCount (b1 b2 b3 : Byte) :
    countByte (joinCount b1 b2 b3) 0 = b1 ∧ countByte (joinCount b1 b2 b3) 1 = b2 ∧
      countByte (joinCount b1 b2 b3) 2 = b3 := by
  have h1 := b1.isLt
  have h2 := b2.isLt
  have h3 := b3.isLt
  refine ⟨BitVec.eq_of_toNat_eq ?_, BitVec.eq_of_toNat_eq ?_, BitVec.eq_of_toNat_eq ?_⟩ <;>
    rw [countByte_toNat, joinCount_toNat] <;> omega

theorem joinCount_eq_zero_iff (b1 b2 b3 : Byte) :
    joinCount b1 b2 b3 = 0 ↔ b1 = 0 ∧ b2 = 0 ∧ b3 = 0 := by
  simp only [← BitVec.toNat_inj, joinCount_toNat, BitVec.ofNat_eq_ofNat, BitVec.toNat_ofNat,
    Nat.zero_mod]
  omega

/-! ### The codes of steps and of repeat forms (R82, R83) -/

theorem encode_instr (st : TraceStep) : encode st.instr = singleItem st := by
  cases st <;> rfl

theorem wellFormed_instr (st : TraceStep) : st.instr.WellFormed := by
  cases st <;> rfl

theorem traceItem_instr (st : TraceStep) : st.instr.traceItem = true := by
  cases st <;> rfl

/-- Which steps may be repeated (R82). -/
theorem repeatInstr_isSome_iff (st : TraceStep) (n : Count24) :
    (repeatInstr st n).isSome = true ↔ st = .clk ∨ st = .pulse ∨ st = .main := by
  cases st <;> simp [repeatInstr]

/-- The steps that may not be repeated (R86). -/
theorem repeatInstr_eq_none_iff (st : TraceStep) (n : Count24) :
    repeatInstr st n = none ↔ st = .svcPa ∨ st = .svcGt ∨ st = .reset := by
  cases st <;> simp [repeatInstr]

section
variable {st : TraceStep} {n : Count24} {i : Instr} (h : repeatInstr st n = some i)
include h

theorem encode_repeatInstr : encode i = repeatItem st n := by
  cases st with
  | clk | pulse | main =>
    cases h
    rfl
  | svcPa | svcGt | reset => cases h

theorem traceItem_repeatInstr : i.traceItem = true := by
  rw [Instr.traceItem, encode_repeatInstr h, repeatItem]

theorem wellFormed_repeatInstr_iff : i.WellFormed ↔ n ≠ 0 := by
  cases st with
  | clk | pulse | main =>
    cases h
    exact bne_iff_ne
  | svcPa | svcGt | reset => cases h

end

/-- A well-formed instruction that may stand in a trace is a step, or a step's repeat form with a
count that is not zero. -/
theorem traceItem_cases {i : Instr} (hw : i.WellFormed) (ht : i.traceItem = true) :
    ∃ st, i = st.instr ∨ ∃ n, n ≠ 0 ∧ repeatInstr st n = some i := by
  cases i with
  | clk => exact ⟨.clk, .inl rfl⟩
  | pulse => exact ⟨.pulse, .inl rfl⟩
  | svcPa => exact ⟨.svcPa, .inl rfl⟩
  | svcGt => exact ⟨.svcGt, .inl rfl⟩
  | main => exact ⟨.main, .inl rfl⟩
  | reset => exact ⟨.reset, .inl rfl⟩
  | clkRep n => exact ⟨.clk, .inr ⟨n, bne_iff_ne.mp hw, rfl⟩⟩
  | pulseRep n => exact ⟨.pulse, .inr ⟨n, bne_iff_ne.mp hw, rfl⟩⟩
  | mainRep n => exact ⟨.main, .inr ⟨n, bne_iff_ne.mp hw, rfl⟩⟩
  | _ => cases ht

/-! ### The items that decode (R81, R83) -/

theorem decodeItem_single (st : TraceStep) (rest : List Byte) :
    decodeItem (packByte false 0 (opOfStep st) :: rest) = .ok (st.instr, rest) := by
  simp [decodeItem]

theorem decodeItem_repeated {st : TraceStep} {n : Count24} {i : Instr}
    (h : repeatInstr st n = some i) (hn : n ≠ 0) (rest : List Byte) :
    decodeItem (packByte true 0 (opOfStep st) :: countByte n 0 :: countByte n 1 ::
      countByte n 2 :: rest) = .ok (i, rest) := by
  simpa [decodeItem, decodeRepeat, h] using hn

/-- The byte of a step in format S is its item (R82). -/
theorem itemCode_single (st : TraceStep) :
    Machine.itemCode (packByte false 0 (opOfStep st)) st.instr :=
  ⟨encode_instr st, decodeItem_single st⟩

theorem decodeRepeat_ok_cases {st : TraceStep} {b : Byte} {bs after : List Byte} {i : Instr}
    (h : decodeRepeat st b bs = .ok (i, after)) :
    ∃ b1 b2 b3, bs = b1 :: b2 :: b3 :: after ∧ joinCount b1 b2 b3 ≠ 0 ∧
      repeatInstr st (joinCount b1 b2 b3) = some i := by
  unfold decodeRepeat at h
  split at h
  case h_2 => cases h
  case h_1 b1 b2 b3 rest =>
    split at h
    case h_1 => cases h
    case h_2 j hj =>
      split at h
      case isTrue => cases h
      case isFalse hn =>
        cases h
        exact ⟨b1, b2, b3, rfl, hn, hj⟩

/-- The first byte of an item that decodes is packed from class 0 and a step's code, and `rep` says
whether the step alone or its repeat form follows. -/
theorem decodeItem_ok_cases {b : Byte} {bs after : List Byte} {i : Instr}
    (h : decodeItem (b :: bs) = .ok (i, after)) :
    ∃ st, b = packByte (repField b) 0 (opOfStep st) ∧
      ((repField b = false ∧ i = st.instr ∧ after = bs) ∨
        (repField b = true ∧ decodeRepeat st b bs = .ok (i, after))) := by
  rw [decodeItem] at h
  split at h
  case isTrue => cases h
  case isFalse hcls =>
    split at h
    case h_1 => cases h
    case h_2 st hst =>
      refine ⟨st, ?_, ?_⟩
      · rw [opOfStep_of_stepOfOp hst, ← not_ne_iff.mp hcls, packByte_fields]
      · split at h
        case isTrue hrep => exact .inr ⟨hrep, h⟩
        case isFalse hrep =>
          cases h
          exact .inl ⟨Bool.eq_false_of_not_eq_true hrep, rfl, rfl⟩

/-- What decodes at the front of a trace is exactly the code of a well-formed instruction that may
stand in one. -/
theorem decodeItem_ok_iff {bs after : List Byte} {i : Instr} :
    decodeItem bs = .ok (i, after) ↔
      i.WellFormed ∧ i.traceItem = true ∧ bs = (encode i).traceBytes ++ after := by
  constructor
  · intro h
    cases bs with
    | nil => cases h
    | cons b bs =>
      obtain ⟨st, hb, ⟨hrep, rfl, rfl⟩ | ⟨hrep, hi⟩⟩ := decodeItem_ok_cases h <;> rw [hrep] at hb
      · refine ⟨wellFormed_instr st, traceItem_instr st, ?_⟩
        rw [encode_instr, hb]
        rfl
      · obtain ⟨b1, b2, b3, rfl, hn, hi⟩ := decodeRepeat_ok_cases hi
        obtain ⟨h1, h2, h3⟩ := countBytes_joinCount b1 b2 b3
        refine ⟨(wellFormed_repeatInstr_iff hi).mpr hn, traceItem_repeatInstr hi, ?_⟩
        rw [encode_repeatInstr hi, repeatItem, h1, h2, h3, hb]
        rfl
  · rintro ⟨hw, ht, rfl⟩
    obtain ⟨st, rfl | ⟨n, hn, hi⟩⟩ := traceItem_cases hw ht
    · rw [encode_instr]
      exact decodeItem_single st after
    · rw [encode_repeatInstr hi]
      exact decodeItem_repeated hi hn after

/-- Bit 7 of the first byte tells the length of an item that decodes (R87). -/
theorem length_traceBytes_of_decodeItem {b : Byte} {bs after : List Byte} {i : Instr}
    (h : decodeItem (b :: bs) = .ok (i, after)) : (encode i).traceBytes.length = itemLength b := by
  obtain ⟨st, -, ⟨hrep, rfl, -⟩ | ⟨hrep, hi⟩⟩ := decodeItem_ok_cases h
  · rw [encode_instr, itemLength, hrep]
    rfl
  · obtain ⟨_, _, _, -, -, hi⟩ := decodeRepeat_ok_cases hi
    rw [encode_repeatInstr hi, itemLength, hrep]
    rfl

/-! ### Codes outside a trace (R84, R85) -/

theorem encode_of_mem_subOfOp : ∀ op : BitVec 4, ∀ i ∈ subOfOp op,
    i.WellFormed ∧ encode i = .sub (packByte false 1 op) := by
  decide

theorem decodeSub_ok {b : Byte} {i : Instr} (h : decodeSub b = .ok i) :
    clsField b = 1 ∧ i.WellFormed ∧ encode i = .sub b := by
  unfold decodeSub at h
  split at h
  case isTrue => cases h
  case isFalse hfields =>
    obtain ⟨hrep, hcls⟩ := not_or.mp hfields
    split at h
    case h_1 => cases h
    case h_2 j hj =>
      cases h
      obtain ⟨hw, he⟩ := encode_of_mem_subOfOp (opField b) i hj
      have hb := packByte_fields b
      rw [Bool.eq_false_of_not_eq_true hrep, not_ne_iff.mp hcls] at hb
      exact ⟨not_ne_iff.mp hcls, hw, hb ▸ he⟩

theorem decodeGsSel_ok {v : BitVec 2} {i : Instr} (h : decodeGsSel v = .ok i) :
    i.WellFormed ∧ encode i = .gsSel v := by
  unfold decodeGsSel at h
  split at h
  case h_1 hv | h_2 hv | h_3 hv =>
    cases h
    exact ⟨rfl, congrArg Code.gsSel (BitVec.eq_of_toNat_eq hv.symm)⟩
  case h_4 => cases h

theorem decodeCSel_ok {v : BitVec 3} {i : Instr} (h : decodeCSel v = .ok i) :
    i.WellFormed ∧ encode i = .cSel v := by
  unfold decodeCSel at h
  split at h
  case h_1 hv | h_2 hv | h_3 hv | h_4 hv | h_5 hv | h_6 hv =>
    cases h
    exact ⟨rfl, congrArg Code.cSel (BitVec.eq_of_toNat_eq hv.symm)⟩
  case h_7 => cases h

/-! ### Decoding and encoding undo each other -/

theorem decode_item_ok_iff {bytes : List Byte} {i : Instr} :
    decode (.item bytes) = .ok i ↔ decodeItem bytes = .ok (i, []) := by
  rw [decode]
  split <;> simp_all

/-- The code of an instruction that may stand in a trace is its bytes. -/
theorem encode_of_traceItem {i : Instr} (ht : i.traceItem = true) :
    encode i = .item (encode i).traceBytes := by
  unfold Instr.traceItem at ht
  split at ht
  case h_1 bytes he => rw [he, Code.traceBytes]
  case h_2 | h_3 | h_4 => cases ht

/-- An instruction that may stand in a trace is read back from its bytes. -/
theorem decode_encode_of_traceItem {i : Instr} (hw : i.WellFormed) (ht : i.traceItem = true) :
    decode (encode i) = .ok i := by
  rw [encode_of_traceItem ht, decode_item_ok_iff, decodeItem_ok_iff]
  exact ⟨hw, ht, (List.append_nil _).symm⟩

/-- Settles O6: an item is read back by the law of items, any other code by the tables of R84 and
R85. -/
theorem decodeEncodeRoundTrip : Obligations.DecodeEncodeRoundTrip := by
  intro i hw
  cases i with
  | clk | pulse | svcPa | svcGt | main | reset | clkRep | pulseRep | mainRep =>
    exact decode_encode_of_traceItem hw rfl
  | _ => rfl

/-- Settles O7, by the kind of the code. -/
theorem encodeInvertsDecode : Obligations.EncodeInvertsDecode := by
  intro c i h
  cases c with
  | item bytes =>
    obtain ⟨hw, ht, hbytes⟩ := decodeItem_ok_iff.mp (decode_item_ok_iff.mp h)
    rw [List.append_nil] at hbytes
    exact ⟨hw, hbytes ▸ encode_of_traceItem ht⟩
  | sub b => exact (decodeSub_ok h).2
  | gsSel v => exact decodeGsSel_ok h
  | cSel v => exact decodeCSel_ok h

/-- Settles O8: the bytes taken are the item's code, whose length bit 7 tells. -/
theorem itemLengthFromBitSeven : Obligations.ItemLengthFromBitSeven := by
  intro b rest i after h
  have hlength : (if b.toNat < 128 then 1 else 4) = (encode i).traceBytes.length := by
    simp only [length_traceBytes_of_decodeItem h, itemLength, repField_iff, ← Nat.not_lt, ite_not]
  obtain ⟨-, -, hbytes⟩ := decodeItem_ok_iff.mp h
  rw [hlength, hbytes]
  exact ⟨List.drop_left.symm, by rw [List.length_append, Nat.add_comm]⟩

/-- Settles O1, by evaluation of each code. -/
theorem sampleCodesDecode : Obligations.SampleCodesDecode := by
  unfold Obligations.SampleCodesDecode
  decide

/-- Settles O2: each byte is packed from the fields of R81 and the `op` of R82. -/
theorem stepCodesOfTheTable : Obligations.StepCodesOfTheTable :=
  ⟨itemCode_single .clk, itemCode_single .pulse, itemCode_single .svcPa, itemCode_single .svcGt,
    itemCode_single .main, itemCode_single .reset, fun _ => ⟨rfl, rfl, rfl⟩, repeatInstr_isSome_iff⟩

theorem decodeItem_of_reservedClass {b : Byte} (h : clsField b ≠ 0) (rest : List Byte) :
    decodeItem (b :: rest) = .error (.reservedClass b) := by
  rw [decodeItem, if_pos h]

/-- The code of a sub-operation identifies it: its class keeps it out of a trace. -/
theorem identifies_of_decodeSub {b : Byte} {i : Instr} (h : decodeSub b = .ok i) :
    Machine.identifies b i := by
  obtain ⟨hcls, -, he⟩ := decodeSub_ok h
  have hne : clsField b ≠ 0 := by
    rw [hcls]
    decide
  exact ⟨he, h, fun rest => ⟨_, decodeItem_of_reservedClass hne rest⟩⟩

/-- Settles O3: each code of R84 decodes as a sub-operation. -/
theorem subOperationCodes : Obligations.SubOperationCodes := by
  refine ⟨?_, ?_, ?_, ?_, ?_, ?_, ?_, ?_, ?_, ?_, ?_, ?_, ?_, ?_, ?_⟩ <;>
    exact identifies_of_decodeSub rfl

end Sys2Proof
end

-- The encoding family, part two (30_encoding.md R80, R86 to R89): illegal items, whole traces, and
-- the traces the assembler writes.
section
namespace Sys2Proof

/-! ### Illegal items (R86) -/

/-- The codes that name no step. -/
theorem stepOfOp_eq_none_iff (op : BitVec 4) :
    stepOfOp op = none ↔ 5 ≤ op.toNat ∧ op.toNat ≤ 14 := by
  revert op
  decide

/-- The codes of the steps that may not be repeated. -/
theorem toNat_of_stepOfOp {op : BitVec 4} {st : TraceStep} (h : stepOfOp op = some st) :
    (st = .svcPa ∨ st = .svcGt ∨ st = .reset) ↔ op.toNat = 2 ∨ op.toNat = 3 ∨ op.toNat = 15 := by
  obtain rfl := opOfStep_of_stepOfOp h
  cases st <;> decide

/-- What makes the rest of a format R item illegal. -/
theorem decodeRepeat_error_iff {st : TraceStep} {b : Byte} {bs : List Byte} :
    (∃ why, decodeRepeat st b bs = .error why) ↔
      (st = .svcPa ∨ st = .svcGt ∨ st = .reset) ∨ bs.length < 3 ∨
        ∃ tail, bs = 0 :: 0 :: 0 :: tail := by
  match bs with
  | [] | [_] | [_, _] => exact iff_of_true ⟨_, rfl⟩ (.inr (.inl (by simp)))
  | b1 :: b2 :: b3 :: rest =>
    have hshort : ¬(b1 :: b2 :: b3 :: rest).length < 3 := by simp
    have hzero : (∃ tail, b1 :: b2 :: b3 :: rest = 0 :: 0 :: 0 :: tail) ↔
        joinCount b1 b2 b3 = 0 := by
      rw [joinCount_eq_zero_iff]
      simp
    rw [hzero, ← repeatInstr_eq_none_iff st (joinCount b1 b2 b3), decodeRepeat]
    cases repeatInstr st (joinCount b1 b2 b3) with
    | none => exact iff_of_true ⟨_, rfl⟩ (.inl rfl)
    | some i =>
      by_cases hn : joinCount b1 b2 b3 = 0
      · exact iff_of_true ⟨_, if_pos hn⟩ (.inr (.inr hn))
      · simp only [hn, if_false, hshort, reduceCtorEq, exists_false, or_self]

/-- What makes an item illegal, in its fields. -/
theorem decodeItem_error_iff {b : Byte} {bs : List Byte} :
    (∃ why, decodeItem (b :: bs) = .error why) ↔
      clsField b ≠ 0 ∨ stepOfOp (opField b) = none ∨
        ∃ st, stepOfOp (opField b) = some st ∧ repField b = true ∧
          ∃ why, decodeRepeat st b bs = .error why := by
  by_cases hcls : clsField b = 0
  case neg => exact iff_of_true ⟨_, if_pos hcls⟩ (.inl hcls)
  case pos =>
    rw [decodeItem, if_neg (not_not_intro hcls)]
    cases stepOfOp (opField b) with
    | none => exact iff_of_true ⟨_, rfl⟩ (.inr (.inl rfl))
    | some st => cases repField b <;> simp [hcls]

theorem clsField_ne_zero_iff (b : Byte) : clsField b ≠ 0 ↔ b.toNat / 16 % 8 ≠ 0 := by
  rw [← clsField_toNat, ne_eq, ne_eq, ← BitVec.toNat_inj]
  rfl

/-- What makes an item illegal, in the value of its first byte. -/
theorem decodeItem_error_iff_toNat (b : Byte) (bs : List Byte) :
    (∃ why, decodeItem (b :: bs) = .error why) ↔
      b.toNat / 16 % 8 ≠ 0 ∨ (5 ≤ b.toNat % 16 ∧ b.toNat % 16 ≤ 14) ∨
      (128 ≤ b.toNat ∧ (b.toNat % 16 = 2 ∨ b.toNat % 16 = 3 ∨ b.toNat % 16 = 15 ∨ bs.length < 3 ∨
        ∃ tail, bs = 0 :: 0 :: 0 :: tail)) := by
  rw [decodeItem_error_iff, clsField_ne_zero_iff, ← opField_toNat, ← stepOfOp_eq_none_iff,
    ← repField_iff]
  cases hst : stepOfOp (opField b) with
  | none => simp
  | some st =>
    simp only [Option.some.injEq, exists_eq_left', decodeRepeat_error_iff, toNat_of_stepOfOp hst]
    simp only [or_assoc]

/-! ### Whole traces (R80, R86) -/

theorem encodeTrace_cons (i : Instr) (is : List Instr) :
    encodeTrace (i :: is) = (encode i).traceBytes ++ encodeTrace is := rfl

/-- Instructions that may be written as a trace. -/
abbrev Writable (is : List Instr) : Prop := ∀ i ∈ is, i.WellFormed ∧ i.traceItem = true

/-- An item has a first byte. -/
theorem traceBytes_ne_nil {i : Instr} (hw : i.WellFormed) (ht : i.traceItem = true) :
    (encode i).traceBytes ≠ [] := by
  intro hnil
  have h : decodeItem [] = .ok (i, []) := decodeItem_ok_iff.mpr ⟨hw, ht, by rw [hnil]; rfl⟩
  cases h

/-- The search for an ill-formed item passes over an item that decodes. -/
theorem traceErrorFrom_of_ok {fuel off : Nat} {bs after : List Byte} {i : Instr}
    (h : decodeItem bs = .ok (i, after)) :
    traceErrorFrom (fuel + 1) off bs =
      traceErrorFrom fuel (off + (encode i).traceBytes.length) after := by
  cases bs with
  | nil => cases h
  | cons b bs => rw [traceErrorFrom, h, length_traceBytes_of_decodeItem h]

/-- It passes over the code of well-formed items, with fuel left for every byte after it. -/
theorem traceErrorFrom_encodeTrace {is : List Instr} (his : Writable is) {bs : List Byte}
    {fuel : Nat} (off : Nat) (hfuel : (encodeTrace is ++ bs).length ≤ fuel) :
    ∃ fuel', bs.length ≤ fuel' ∧ traceErrorFrom fuel off (encodeTrace is ++ bs) =
      traceErrorFrom fuel' (off + (encodeTrace is).length) bs := by
  induction is generalizing fuel off with
  | nil => exact ⟨fuel, hfuel, rfl⟩
  | cons i is ih =>
    obtain ⟨⟨hw, ht⟩, his⟩ := List.forall_mem_cons.mp his
    have hi : decodeItem ((encode i).traceBytes ++ (encodeTrace is ++ bs)) =
        .ok (i, encodeTrace is ++ bs) := decodeItem_ok_iff.mpr ⟨hw, ht, rfl⟩
    have hpos : 0 < (encode i).traceBytes.length :=
      List.length_pos_of_ne_nil (traceBytes_ne_nil hw ht)
    rw [encodeTrace_cons, List.append_assoc] at hfuel ⊢
    rw [List.length_append] at hfuel
    obtain ⟨fuel, rfl⟩ : ∃ k, fuel = k + 1 := ⟨fuel - 1, by omega⟩
    rw [traceErrorFrom_of_ok hi, List.length_append, ← Nat.add_assoc]
    exact ih his _ (by omega)

theorem traceErrorFrom_nil (fuel off : Nat) : traceErrorFrom fuel off [] = none := by
  cases fuel <;> rfl

/-- The code of well-formed items has no ill-formed item. -/
theorem traceError_encodeTrace {is : List Instr} (his : Writable is) :
    traceError (encodeTrace is) = none := by
  obtain ⟨fuel, -, h⟩ := traceErrorFrom_encodeTrace his (bs := []) 0 (Nat.le_refl _)
  rw [List.append_nil, traceErrorFrom_nil] at h
  exact h

/-- After the code of well-formed items, an illegal item is found at its own offset. -/
theorem traceError_encodeTrace_append {is : List Instr} (his : Writable is) {b : Byte}
    {bs : List Byte} {why : DecodeError} (h : decodeItem (b :: bs) = .error why) :
    traceError (encodeTrace is ++ b :: bs) = some ((encodeTrace is).length, why) := by
  obtain ⟨fuel, hfuel, e⟩ := traceErrorFrom_encodeTrace his (bs := b :: bs) 0 (Nat.le_refl _)
  obtain ⟨fuel, rfl⟩ : ∃ k, fuel = k + 1 := ⟨fuel - 1, by simp at hfuel; omega⟩
  rw [traceError, e, traceErrorFrom, h, Nat.zero_add]

namespace Machine

/-! ### The step on a trace (R80) -/

section
variable {s : State} (hreq : s.bench.request = none)
include hreq

/-- With no request, a trace with an ill-formed item is refused. -/
theorem step_of_traceError {off : Nat} {why : DecodeError}
    (h : traceError s.trace = some (off, why)) : step s = .refused (.illFormedTrace off why) := by
  simp [step, fetch, hreq, fetchItem, h]

/-- With no request, a step runs the first item of a well-formed trace. -/
theorem step_of_item {i : Instr} {rest : List Byte} (h : traceError s.trace = none)
    (hi : decodeItem s.trace = .ok (i, rest)) : step s = exec i (s.setTrace rest) := by
  simp [step, fetch, hreq, fetchItem, h, hi]

/-- With no request and nothing left of the trace there is no next instruction. -/
theorem step_of_empty_trace (h : s.trace = []) : step s = .fault .traceEnded := by
  simp [step, fetch, hreq, fetchItem, h, traceError, traceErrorFrom_nil, decodeItem]

end

/-- A request of the bench is run in place of the trace. -/
theorem step_of_request {s : State} {c : Code} {i : Instr} (hreq : s.bench.request = some c)
    (hi : decode c = .ok i) : step s = exec i (s.setBench { s.bench with request := none }) := by
  simp [step, fetch, hreq, fetchRequest, hi]

/-- Settles O5: the illegal items by the fields of their first byte, and their place in a trace by
the search that passes over the items before them. -/
theorem illegalItemsRefused : Obligations.IllegalItemsRefused := by
  refine ⟨decodeItem_error_iff_toNat, fun s is b rest why hreq his hwhy htrace => ?_, rfl, rfl, rfl⟩
  refine step_of_traceError hreq ?_
  rw [htrace]
  exact traceError_encodeTrace_append his hwhy

/-- Settles O10: the step on a trace, on a request and at the end of a trace. -/
theorem stepRunsDecodedInstruction : Obligations.StepRunsDecodedInstruction :=
  ⟨fun _ _ _ hreq htrace hi => step_of_item hreq htrace hi,
    fun _ _ _ hreq hi => step_of_request hreq hi, fun _ => step_of_empty_trace⟩

/-- Settles O11: such a trace has no ill-formed item, and its first item decodes to the first
instruction. -/
theorem encodedTraceRunsItemByItem : Obligations.EncodedTraceRunsItemByItem := by
  intro s i is hreq his htrace
  obtain ⟨hw, ht⟩ := his i List.mem_cons_self
  refine step_of_item hreq ?_ ?_ <;> rw [htrace]
  · exact traceError_encodeTrace his
  · exact decodeItem_ok_iff.mpr ⟨hw, ht, encodeTrace_cons i is⟩

/-! ### The text form (R88, R89) -/

theorem repeatOf_writable {name : List Char} {st : TraceStep} {n : Nat} {is : List Instr}
    (h : repeatOf name st n = .ok is) : Writable is := by
  unfold repeatOf at h
  split at h
  case h_1 => cases h
  case h_2 i hi =>
    split at h
    case isFalse => cases h
    case isTrue hn =>
      cases h
      refine List.forall_mem_singleton.mpr
        ⟨(wellFormed_repeatInstr_iff hi).mpr fun hzero => ?_, traceItem_repeatInstr hi⟩
      have hmod : n % 2 ^ 24 = 0 := congrArg BitVec.toNat hzero
      unfold maxCount at hn
      omega

theorem plainItem_writable {c : Config} {name : List Char} {is : List Instr}
    (h : plainItem c name = .ok is) : Writable is := by
  unfold plainItem at h
  split at h
  case h_1 st _ =>
    cases h
    exact List.forall_mem_singleton.mpr ⟨wellFormed_instr st, traceItem_instr st⟩
  case h_2 =>
    split at h
    case isTrue =>
      cases h
      decide
    split at h
    case isTrue => exact repeatOf_writable h
    split at h
    case isTrue =>
      cases h
      decide
    case isFalse => cases h

theorem countedItem_writable {c : Config} {name : List Char} {n : Nat} {is : List Instr}
    (h : countedItem c name n = .ok is) : Writable is := by
  unfold countedItem at h
  split at h
  case h_1 => exact repeatOf_writable h
  case h_2 =>
    split at h
    case isTrue => exact repeatOf_writable h
    case isFalse => split at h <;> cases h

theorem assembleItem_writable {c : Config} {item : List Char} {is : List Instr}
    (h : assembleItem c item = .ok is) : Writable is := by
  unfold assembleItem at h
  split at h
  case h_1 => exact plainItem_writable h
  case h_2 =>
    split at h
    case h_1 => cases h
    case h_2 => exact countedItem_writable h

theorem assembleItems_writable {c : Config} {items : List (List Char)} {is : List Instr}
    (h : assembleItems c items = .ok is) : Writable is := by
  induction items generalizing is with
  | nil =>
    cases h
    exact nofun
  | cons item items ih =>
    rw [assembleItems] at h
    split at h
    case h_1 => cases h
    case h_2 js hjs =>
      split at h
      case h_1 => cases h
      case h_2 ks hks =>
        cases h
        exact List.forall_mem_append.mpr ⟨assembleItem_writable hjs, ih hks⟩

/-- Settles O60: the assembler writes the code of well-formed items. -/
theorem assembledTextIsWellFormed : Obligations.AssembledTextIsWellFormed := by
  intro c text bs h
  unfold assemble at h
  split at h
  case h_1 => cases h
  case h_2 is his =>
    cases h
    exact traceError_encodeTrace (assembleItems_writable his)

/-- Settles O59, by evaluation of each text. -/
theorem assemblerSamples : Obligations.AssemblerSamples := by
  unfold Obligations.AssemblerSamples
  decide

end Machine
end Sys2Proof
end

-- The encoding family, part three (30_encoding.md R83, R85, R89): what the items, the
-- behaviour rows and the pseudo-items do.
section
namespace Sys2Proof.Machine

/-! ### Repeat items as sequences of steps (R83) -/

theorem repeatStep_exec_next {st : TraceStep} {k : Nat} {s t : State} :
    repeatStep k (exec st.instr) s = .next t ↔ runSteps (List.replicate k st) s = some t := by
  induction k generalizing s with
  | zero => simp [repeatStep, runSteps]
  | succ k ih =>
    rw [repeatStep, List.replicate_succ, runSteps, take]
    cases exec st.instr s with
    | next u => exact ih
    | fault | refused => exact iff_of_false nofun nofun

/-- A repeat item reaches what its step reaches when taken `n` times in a row. -/
theorem exec_repeatInstr_next {st : TraceStep} {n : Count24} {i : Instr}
    (h : repeatInstr st n = some i) (hn : n ≠ 0) {s t : State} :
    exec i s = .next t ↔ runSteps (List.replicate n.toNat st) s = some t := by
  rw [exec_repeatInstr h, configured_next, repeated_next, repeatStep_exec_next]
  refine ⟨fun ⟨_, _, hrun⟩ => hrun, fun hrun => ⟨?_, hn, hrun⟩⟩
  have hpos : n.toNat ≠ 0 := fun e => hn (BitVec.eq_of_toNat_eq e)
  obtain ⟨k, hk⟩ := Nat.exists_eq_succ_of_ne_zero hpos
  rw [hk, List.replicate_succ, runSteps_cons] at hrun
  obtain ⟨u, hu, -⟩ := hrun
  exact exec_next_valid (take_some.mp hu)

theorem exec_repeatInstr_zero {st : TraceStep} {i : Instr} {s : State}
    (h : repeatInstr st 0 = some i) (hv : s.cfg.Valid) : exec i s = .refused .zeroRepeat := by
  rw [exec_repeatInstr h]
  exact (configured_of_valid hv).trans (if_pos rfl)

theorem svcPaEnabled_svcPaStep (s : State) : svcPaEnabled (svcPaStep s) = false := rfl

theorem svcGtEnabled_svcGtStep (s : State) : svcGtEnabled (svcGtStep s) = false := by
  obtain ⟨_, _, _, _, _, _, e, -⟩ := svcGtStep_ownership s
  rw [e]
  rfl

/-- A step whose effect leaves it not enabled is not taken twice in a row. -/
theorem runSteps_twice_eq_none {st : TraceStep} {en : State → Bool} {effect : State → State}
    (htake : ∀ {s t}, take st s = some t → en s = true ∧ effect s = t)
    (hoff : ∀ s, en (effect s) = false) (s : State) : runSteps [st, st] s = none := by
  refine Option.eq_none_iff_forall_ne_some.mpr fun t ht => ?_
  obtain ⟨u, hu, hrest⟩ := runSteps_cons.mp ht
  obtain ⟨v, hv, -⟩ := runSteps_cons.mp hrest
  obtain ⟨-, rfl⟩ := htake hu
  exact absurd ((hoff s).symm.trans (htake hv).1) Bool.false_ne_true

theorem runSteps_svcPa_twice (s : State) : runSteps [.svcPa, .svcPa] s = none :=
  runSteps_twice_eq_none (st := .svcPa)
    (fun h => (exec_svcPa_next.mp (take_some.mp h)).2) svcPaEnabled_svcPaStep s

theorem runSteps_svcGt_twice (s : State) : runSteps [.svcGt, .svcGt] s = none :=
  runSteps_twice_eq_none (st := .svcGt)
    (fun h => (exec_svcGt_next.mp (take_some.mp h)).2) svcGtEnabled_svcGtStep s

/-- Clearing `rep` in the byte of a repeat form gives the byte of its step. -/
theorem packByte_repeated_low (st : TraceStep) :
    packByte true 0 (opOfStep st) &&& 0x0F = packByte false 0 (opOfStep st) := by
  cases st <;> decide

/-- Settles O9: the bytes by the law of items, and the meaning by induction on the count. -/
theorem repeatFormIsRepetition : Obligations.RepeatFormIsRepetition := by
  refine ⟨fun b0 b1 b2 b3 rest i after hrep h => ?_,
    fun _ _ _ _ _ hi hn => exec_repeatInstr_next hi hn,
    fun _ _ _ hv hi => exec_repeatInstr_zero hi hv, repeatInstr_isSome_iff,
    fun s => ⟨runSteps_svcPa_twice s, runSteps_svcGt_twice s⟩⟩
  rw [← repField_iff] at hrep
  obtain ⟨st, hb, ⟨hfalse, -⟩ | ⟨-, h⟩⟩ := decodeItem_ok_cases h
  · exact absurd (hfalse.symm.trans hrep) Bool.false_ne_true
  · obtain ⟨_, _, _, hbytes, -, hi⟩ := decodeRepeat_ok_cases h
    cases hbytes
    refine ⟨rfl, st, _, hi, ?_, joinCount_toNat b1 b2 b3⟩
    rw [hb, hrep, packByte_repeated_low]
    exact itemCode_single st

/-! ### The behaviours that the state registers select (R85) -/

/-- The row of `GS_STEP` that a value of `GS_STATE` selects. -/
def GsState.row : GsState → Instr
  | .counting => .gsStepCounting
  | .lastInterval => .gsStepLastInterval
  | .complete => .gsStepComplete

/-- The row of `MAIN` that a value of `C_STATE` selects. -/
def CState.row : CState → Instr
  | .boot => .mainBoot
  | .poll => .mainPoll
  | .latch => .mainLatch
  | .clear => .mainClear
  | .write => .mainWrite
  | .restart => .mainRestart

theorem decode_gsSel_bits (g : GsState) : decode (.gsSel g.bits) = .ok g.row := by
  cases g <;> rfl

theorem decode_cSel_bits (c : CState) : decode (.cSel c.bits) = .ok c.row := by
  cases c <;> rfl

theorem gsBehaviour_of_selected {g : GsState} {s : State} (h : s.gsState = g) (f : State → State) :
    gsBehaviour g f s = configured s (.next (f s)) := by
  simp [gsBehaviour, h, whenEnabled]

theorem gsBehaviour_of_not_selected {g : GsState} {s : State} (hv : s.cfg.Valid)
    (h : s.gsState ≠ g) (f : State → State) : gsBehaviour g f s = .fault .behaviourNotSelected := by
  simp [gsBehaviour, configured_of_valid hv, h, whenEnabled]

theorem mainBehaviour_of_selected {c : CState} {s : State} (h : s.cState = c) (f : State → State) :
    mainBehaviour c f s = configured s (mainLoop f s) := by
  simp [mainBehaviour, h, whenEnabled]

theorem mainBehaviour_of_not_selected {c : CState} {s : State} (hv : s.cfg.Valid) (h : s.cState ≠ c)
    (f : State → State) : mainBehaviour c f s = .fault .behaviourNotSelected := by
  simp [mainBehaviour, configured_of_valid hv, h, whenEnabled]

/-- `GS_STEP` is the row that `GS_STATE` selects. -/
theorem exec_gsStep_eq_row (s : State) : exec .gsStep s = exec s.gsState.row s := by
  rw [exec, execGsStep, gsStep]
  cases h : s.gsState with
  | counting => exact (gsBehaviour_of_selected h gsStepCounting).symm
  | lastInterval => exact (gsBehaviour_of_selected h gsStepLastInterval).symm
  | complete => exact (gsBehaviour_of_selected h gsStepComplete).symm

/-- `MAIN` is the row that `C_STATE` selects. -/
theorem exec_main_eq_row (s : State) : exec .main s = exec s.cState.row s := by
  rw [exec, execMain, mainLoop, mainStep]
  cases h : s.cState with
  | boot => exact (mainBehaviour_of_selected h mainBoot).symm
  | poll => exact (mainBehaviour_of_selected h mainPoll).symm
  | latch => exact (mainBehaviour_of_selected h mainLatch).symm
  | clear => exact (mainBehaviour_of_selected h mainClear).symm
  | write => exact (mainBehaviour_of_selected h mainWrite).symm
  | restart => exact (mainBehaviour_of_selected h mainRestart).symm

/-- An enabled `SVC_GT` is `GS_STEP` from the state with the event cleared. -/
theorem exec_svcGt_of_enabled {s : State} (h : svcGtEnabled s = true) :
    exec .svcGt s = exec .gsStep { s with gt := { s.gt with ovf := false } } := by
  rw [exec, execSvcGt, h]
  rfl

/-- Settles O4: the registers' rows, and the clear before `GS_STEP`. -/
theorem stateRegistersSelectBehaviours : Obligations.StateRegistersSelectBehaviours :=
  ⟨fun _ => exec_svcGt_of_enabled,
    fun s => ⟨_, decode_gsSel_bits s.gsState, exec_gsStep_eq_row s⟩,
    fun s => ⟨_, decode_cSel_bits s.cState, exec_main_eq_row s⟩,
    rfl, rfl, rfl, rfl, rfl, rfl, rfl, rfl, rfl⟩

theorem CountUnit.serviceable_iff (u : CountUnit) :
    u.serviceable = true ↔ u.ovf = true ∧ u.ovie = true :=
  Bool.and_eq_true_iff

/-- `MAIN` is enabled while no event is pending with its interrupt enabled (R206). -/
theorem mainEnabled_iff (s : State) : mainEnabled s = true ↔
    ¬(s.pa.ovf = true ∧ s.pa.ovie = true) ∧ ¬(s.gt.ovf = true ∧ s.gt.ovie = true) := by
  rw [← CountUnit.serviceable_iff, ← CountUnit.serviceable_iff]
  simp [mainEnabled, svcPaEnabled, svcGtEnabled]

theorem exec_main_of_not_enabled {s : State} (hv : s.cfg.Valid) (h : mainEnabled s ≠ true) :
    exec .main s = .fault .mainNotEnabled := by
  rw [exec, execMain, configured_of_valid hv, mainLoop, whenEnabled, if_neg h]

/-- Settles O34: a row that is selected is `MAIN`, and `behaviourNotSelected` is every other row's
answer. -/
theorem behaviourRowsRunWhereSelected : Obligations.BehaviourRowsRunWhereSelected := by
  refine ⟨fun s hv => ?_, fun p hp => ?_⟩
  · exact ⟨fun h => gsBehaviour_of_not_selected hv h _, fun h => gsBehaviour_of_not_selected hv h _,
      fun h => gsBehaviour_of_not_selected hv h _, fun h => mainBehaviour_of_not_selected hv h _,
      fun h => mainBehaviour_of_not_selected hv h _, fun h => mainBehaviour_of_not_selected hv h _,
      fun h => mainBehaviour_of_not_selected hv h _, fun h => mainBehaviour_of_not_selected hv h _,
      fun h => mainBehaviour_of_not_selected hv h _⟩
  · have hrow : p.2 = p.1.row := by
      revert p
      decide
    intro s hv hsel
    rw [hrow, ← hsel, ← exec_main_eq_row]
    refine ⟨fun hquiet => ?_, fun hevent => exec_main_of_not_enabled hv ?_⟩
    · have hnext := exec_main_next.mpr ⟨hv, (mainEnabled_iff s).mpr hquiet, rfl⟩
      exact ⟨_, hnext, hnext⟩
    · rwa [ne_eq, mainEnabled_iff, ← not_or, not_not]

/-! ### Runs of `MAIN` (R83, R209) -/

/-- `MAIN` makes no event serviceable. -/
theorem mainEnabled_mainStep {s : State} (h : mainEnabled s = true) :
    mainEnabled (mainStep s) = true := by
  by_cases hc : s.cState = .restart
  · rw [mainStep, hc]
    rfl
  · obtain ⟨_, _, _, _, e, -⟩ := mainStep_ownership hc
    rw [e]
    exact h

/-- `MAIN*n` completes wherever `MAIN` is enabled. -/
theorem exec_mainRep {s : State} {n : Count24} (hv : s.cfg.Valid) (hn : n ≠ 0)
    (hen : mainEnabled s = true) : exec (.mainRep n) s = .next (mainStep^[n.toNat] s) := by
  refine configured_next.mpr ⟨hv, repeated_next.mpr ⟨hn, ?_⟩⟩
  refine repeatStep_of_total (p := fun s => s.cfg.Valid ∧ mainEnabled s = true) ?_ ?_ _ s
    ⟨hv, hen⟩
  · exact fun s ⟨hv, hen⟩ => exec_main_next.mpr ⟨hv, hen, rfl⟩
  · exact fun s ⟨hv, hen⟩ => ⟨mainStep_cfg s ▸ hv, mainEnabled_mainStep hen⟩

/-- Settles O36: the run answers, and what it answers is what the steps reach. -/
theorem mainRunCompletes : Obligations.MainRunCompletes := by
  intro s n hv hn hpa hgt
  have hrun := exec_mainRep hv hn ((mainEnabled_iff s).mpr ⟨hpa, hgt⟩)
  exact ⟨_, hrun, (exec_repeatInstr_next rfl hn).mp hrun⟩

/-! ### The pseudo-items (R89) -/

/-- The restart leads to the start of a gate, from any state. -/
theorem mainRestart_cycleStart (s : State) : CycleStart (mainRestart s) :=
  ⟨rfl, rfl, rfl, rfl, rfl, rfl, rfl, rfl⟩

/-- The fields the restart leaves alone. -/
theorem mainRestart_frame (s : State) :
    (mainRestart s).freq = s.freq ∧ (mainRestart s).dispLog = s.dispLog ∧
      (mainRestart s).cfg = s.cfg ∧ (mainRestart s).trace = s.trace ∧
      (mainRestart s).bench = s.bench := by
  rw [mainRestart_eq, cycleRestart_eq]
  exact ⟨rfl, rfl, rfl, rfl, rfl⟩

theorem take_main {s : State} (hv : s.cfg.Valid) (hen : mainEnabled s = true) :
    take .main s = some (mainStep s) :=
  take_some.mpr (exec_main_next.mpr ⟨hv, hen, rfl⟩)

/-- Settles O50: reset, boot and restart, one after another. -/
theorem bootStartsTheFirstGate : Obligations.BootStartsTheFirstGate := by
  intro s hv
  have hreset : take .reset s = some (resetStep s) := take_some.mpr (exec_reset_next.mpr ⟨hv, rfl⟩)
  have hboot : take .main (resetStep s) = some (mainBoot (resetStep s)) := take_main hv rfl
  have hrestart : take .main (mainBoot (resetStep s)) =
      some (mainRestart (mainBoot (resetStep s))) := take_main hv rfl
  refine ⟨_, ?_, mainRestart_cycleStart _, mainRestart_frame (mainBoot (resetStep s))⟩
  exact runSteps_cons.mpr ⟨_, hreset, runSteps_cons.mpr
    ⟨_, hboot, runSteps_cons.mpr ⟨_, hrestart, rfl⟩⟩⟩

/-- The state in which a controller that found the flag set restarts the cycle: the combined count
is latched and reported. -/
def State.reported (s : State) : State :=
  { s with
    dataReady := false
    freq := freqCombine s
    cState := .restart
    dispLog := s.dispLog ++ [.clear s.cfg.displayLine, .write (decFormat (freqCombine s))] }

/-- The controller's walk from a poll that finds the flag set to the next poll. -/
theorem mainStep_iterate_report {s : State} (hc : s.cState = .poll) (hd : s.dataReady = true) :
    mainStep^[5] s = mainRestart s.reported := by
  have hpoll : mainStep s = s.setCState .latch := by
    rw [mainStep, hc]
    exact if_pos hd
  have hwrite : mainWrite (mainClear (mainLatch (s.setCState .latch))) = s.reported := by
    rw [mainWrite_eq, mainClear_eq, mainLatch_eq, State.reported]
    simp [State.setCState, freqCombine, concatBits, paRead]
  show mainStep (mainStep (mainStep (mainStep (mainStep s)))) = _
  rw [hpoll, ← hwrite]
  rfl

/-- Settles O51: `MAIN*5` is the controller's walk round its loop. -/
theorem reportItemReportsOnce : Obligations.ReportItemReportsOnce := by
  intro s hv hc hd hen
  have hrun := exec_mainRep (n := 5) hv (by decide) hen
  rw [show (5 : Count24).toNat = 5 from rfl, mainStep_iterate_report hc hd] at hrun
  obtain ⟨hfreq, hlog, hkept⟩ := mainRestart_frame s.reported
  exact ⟨_, hrun, mainRestart_cycleStart _, hfreq, by rw [hlog, hfreq]; rfl, hkept⟩

/-! ### Runs of `CLK` in closed form (R100, R120) -/

/-- Counting on by one, modulo `m` and in whole `m`s. -/
theorem succ_div_mod_of_wrap {k m : Nat} (hm : 0 < m) (h : k % m = m - 1) :
    (k + 1) / m = k / m + 1 ∧ (k + 1) % m = 0 := by
  refine (Nat.div_mod_unique hm).mpr ⟨?_, hm⟩
  have := Nat.div_add_mod k m
  rw [Nat.mul_succ]
  omega

theorem succ_div_mod_of_no_wrap {k m : Nat} (hm : 0 < m) (h : k % m ≠ m - 1) :
    (k + 1) / m = k / m ∧ (k + 1) % m = k % m + 1 := by
  have hlt := Nat.mod_lt k hm
  refine (Nat.div_mod_unique hm).mpr ⟨?_, by omega⟩
  have := Nat.div_add_mod k m
  omega

theorem CountUnit.afterEvents_zero {src : ClockSource} {w : Nat} {u : CountUnit}
    (h : u.cnt < 2 ^ w) : u.afterEvents src w 0 = u := by
  unfold CountUnit.afterEvents
  split
  case isTrue => simp [Nat.mod_eq_of_lt h, Nat.not_le.mpr h]
  case isFalse => rfl

/-- One more event of the source after `k` of them. -/
theorem CountUnit.clocked_afterEvents (src : ClockSource) (w k : Nat) (u : CountUnit) :
    (u.afterEvents src w k).clocked src w = u.afterEvents src w (k + 1) := by
  by_cases hrun : u.en = true ∧ u.cs = src
  case neg => simp [CountUnit.afterEvents, CountUnit.clocked, hrun]
  case pos =>
    have hm := Nat.two_pow_pos w
    simp only [CountUnit.afterEvents, CountUnit.clocked, CountUnit.count, hrun, and_self, if_true,
      ← Nat.add_assoc]
    split
    case isTrue hwrap =>
      obtain ⟨hdiv, hmod⟩ := succ_div_mod_of_wrap hm hwrap
      have hle : 2 ^ w ≤ u.cnt + k + 1 := Nat.le_of_dvd (by omega) (Nat.dvd_of_mod_eq_zero hmod)
      simp [hmod, hle]
    case isFalse hwrap =>
      obtain ⟨-, hmod⟩ := succ_div_mod_of_no_wrap hm hwrap
      have hne : u.cnt + k + 1 ≠ 2 ^ w := fun e => by
        rw [e, Nat.mod_self] at hmod
        cases hmod
      have hle : 2 ^ w ≤ u.cnt + k + 1 ↔ 2 ^ w ≤ u.cnt + k := by omega
      simp [hmod, hle]

/-- The state after `n` steps of `CLK` in closed form. -/
def State.afterClks (n : Nat) (s : State) : State :=
  { s with
    preCnt := (s.preCnt + n) % s.cfg.prescale
    pa := s.pa.afterEvents .int s.cfg.w1 ((s.preCnt + n) / s.cfg.prescale)
    gt := s.gt.afterEvents .int s.cfg.wg ((s.preCnt + n) / s.cfg.prescale) }

theorem State.afterClks_zero {s : State} (hv : s.cfg.Valid) (hs : s.InRange) :
    s.afterClks 0 = s := by
  obtain ⟨-, -, -, -, -, hm, -⟩ := hv
  have hpre : s.preCnt < s.cfg.prescale := Nat.lt_of_le_pred hm hs.preCnt
  simp [State.afterClks, Nat.mod_eq_of_lt hpre, Nat.div_eq_of_lt hpre,
    CountUnit.afterEvents_zero hs.paCnt, CountUnit.afterEvents_zero hs.gtCnt]

theorem clkStep_afterClks {s : State} (hv : s.cfg.Valid) (n : Nat) :
    clkStep (s.afterClks n) = s.afterClks (n + 1) := by
  obtain ⟨-, -, -, -, -, hm, -⟩ := hv
  by_cases h : (s.preCnt + n) % s.cfg.prescale = s.cfg.prescale - 1
  · obtain ⟨hdiv, hmod⟩ := succ_div_mod_of_wrap hm h
    rw [clkStep_tick (beq_iff_eq.mpr h)]
    simp [State.afterClks, CountUnit.clocked_afterEvents, ← Nat.add_assoc, hdiv, hmod]
  · obtain ⟨hdiv, hmod⟩ := succ_div_mod_of_no_wrap hm h
    rw [clkStep_no_tick (beq_eq_false_iff_ne.mpr h)]
    simp [State.afterClks, ← Nat.add_assoc, hdiv, hmod]

theorem clkStep_iterate {s : State} (hv : s.cfg.Valid) (hs : s.InRange) (n : Nat) :
    clkStep^[n] s = s.afterClks n := by
  induction n with
  | zero => exact (State.afterClks_zero hv hs).symm
  | succ n ih => rw [Function.iterate_succ_apply', ih, clkStep_afterClks hv]

/-- `CLK*n` completes in every valid configuration. -/
theorem exec_clkRep {s : State} {n : Count24} (hv : s.cfg.Valid) (hs : s.InRange) (hn : n ≠ 0) :
    exec (.clkRep n) s = .next (s.afterClks n.toNat) := by
  rw [← clkStep_iterate hv hs]
  refine configured_next.mpr ⟨hv, repeated_next.mpr ⟨hn, ?_⟩⟩
  refine repeatStep_of_total (p := fun s => s.cfg.Valid) ?_ ?_ _ s hv
  · exact fun s hv => exec_clk_next.mpr ⟨hv, rfl⟩
  · exact fun s hv => clkStep_cfg s ▸ hv

/-- Settles O52: the closed form of `CLK*n` where `n` is a multiple of `PRESCALE`. -/
theorem tickItemGivesTicks : Obligations.TickItemGivesTicks := by
  intro s k hv hs hpre hk hmax
  have ⟨_, _, _, _, _, hm, _⟩ := hv
  have hcount : (BitVec.ofNat 24 (k * s.cfg.prescale)).toNat = k * s.cfg.prescale :=
    Nat.mod_eq_of_lt (by omega)
  have hpos : 0 < k * s.cfg.prescale := Nat.mul_pos hk hm
  have hne : BitVec.ofNat 24 (k * s.cfg.prescale) ≠ 0 := fun e => by
    rw [e] at hcount
    exact hpos.ne hcount
  rw [exec_clkRep hv hs hne, State.afterClks, hcount, hpre, Nat.zero_add, Nat.mul_mod_left,
    Nat.mul_div_cancel _ hm, ← hpre]

end Sys2Proof.Machine
end

-- The pulse accumulator family (40_pulse_accumulator.md R100 to R104): one count of a unit, the
-- effect of `PULSE` alone and in runs, and the operations that run alone.
section
namespace Sys2Proof.Machine

/-! ### One count of a unit (R100) -/

section
variable {w : Nat} {u : CountUnit}

theorem CountUnit.count_of_wrap (h : u.cnt = 2 ^ w - 1) :
    u.count w = { u with cnt := 0, ovf := true } :=
  if_pos h

theorem CountUnit.count_of_no_wrap (h : u.cnt ≠ 2 ^ w - 1) :
    u.count w = { u with cnt := u.cnt + 1 } :=
  if_neg h

/-- The count of a register in range is the successor modulo its size. -/
theorem CountUnit.count_cnt (h : u.cnt < 2 ^ w) : (u.count w).cnt = (u.cnt + 1) % 2 ^ w := by
  by_cases hwrap : u.cnt = 2 ^ w - 1
  · rw [count_of_wrap hwrap, show u.cnt + 1 = 2 ^ w by omega, Nat.mod_self]
  · rw [count_of_no_wrap hwrap, Nat.mod_eq_of_lt (by omega)]

/-- The event is set by the wrap and never cleared by a count. -/
theorem CountUnit.count_ovf_iff :
    (u.count w).ovf = true ↔ u.ovf = true ∨ u.cnt + 1 = 2 ^ w := by
  have hpos := Nat.two_pow_pos w
  by_cases hwrap : u.cnt = 2 ^ w - 1
  · rw [count_of_wrap hwrap]
    exact iff_of_true rfl (.inr (by omega))
  · rw [count_of_no_wrap hwrap]
    exact (or_iff_left (by omega)).symm

end

/-- Settles O19: the wrap and the plain increment, and the unit each width belongs to. -/
theorem countWrapsAndLatchesEvent : Obligations.CountWrapsAndLatchesEvent := by
  intro w u hu
  obtain ⟨hen, hcs, hovie⟩ := CountUnit.count_controls w u
  exact ⟨CountUnit.count_cnt hu, CountUnit.count_ovf_iff, hen, hcs, hovie,
    fun _ => ⟨rfl, rfl⟩⟩

/-! ### The effect of `PULSE` (R101) -/

theorem CountUnit.count_eq_afterCount (w : Nat) (u : CountUnit) : u.count w = u.afterCount w := by
  by_cases hwrap : u.cnt = 2 ^ w - 1
  · simp [count_of_wrap, afterCount, hwrap]
  · simp [count_of_no_wrap, afterCount, hwrap]

/-- What the model does to a unit on an event is what the rule says. -/
theorem CountUnit.clocked_eq_afterEvent (src : ClockSource) (w : Nat) (u : CountUnit) :
    u.clocked src w = u.afterEvent src w := by
  rw [clocked, afterEvent, count_eq_afterCount]

/-- A unit that selects the source whenever it is enabled counts exactly while enabled. -/
theorem CountUnit.afterEvent_of_source {src : ClockSource} {u : CountUnit}
    (h : u.en = true → u.cs = src) (w : Nat) :
    u.afterEvent src w = if u.en = true then u.afterCount w else u := by
  simp only [afterEvent, and_iff_left_of_imp h]

/-- A unit that selects the other source whenever it is enabled never counts. -/
theorem CountUnit.afterEvent_of_other_source {src : ClockSource} {u : CountUnit}
    (h : u.en = true → u.cs ≠ src) (w : Nat) : u.afterEvent src w = u :=
  if_neg fun ⟨hen, hcs⟩ => h hen hcs

theorem exec_pulse {s : State} (hv : s.cfg.Valid) :
    exec .pulse s = .next { s with
      pa := s.pa.afterEvent .ext s.cfg.w1, gt := s.gt.afterEvent .ext s.cfg.wg } := by
  refine exec_pulse_next.mpr ⟨hv, ?_⟩
  rw [pulseStep_eq, CountUnit.clocked_eq_afterEvent, CountUnit.clocked_eq_afterEvent]

/-- Settles O20: the generic rule, in which R46 (c) fixes the source of each running unit. -/
theorem pulseEffect : Obligations.PulseEffect := by
  refine ⟨fun s hv => exec_pulse hv, fun s hv hs => ?_, itemCode_single .pulse, fun _ => rfl⟩
  have hgt : s.gt.en = true → s.gt.cs ≠ .ext := fun hen => by
    rw [hs.gtSource hen]
    decide
  rw [exec_pulse hv, CountUnit.afterEvent_of_source hs.paSource,
    CountUnit.afterEvent_of_other_source hgt]
  split <;> rfl

/-! ### Runs of `PULSE` in closed form (R83, R100, R101) -/

/-- The state after `n` steps of `PULSE` in closed form. -/
def State.afterPulses (n : Nat) (s : State) : State :=
  { s with
    pa := s.pa.afterEvents .ext s.cfg.w1 n
    gt := s.gt.afterEvents .ext s.cfg.wg n }

theorem State.afterPulses_zero {s : State} (hs : s.InRange) : s.afterPulses 0 = s := by
  rw [afterPulses, CountUnit.afterEvents_zero hs.paCnt, CountUnit.afterEvents_zero hs.gtCnt]

theorem pulseStep_afterPulses (n : Nat) (s : State) :
    pulseStep (s.afterPulses n) = s.afterPulses (n + 1) := by
  rw [pulseStep_eq]
  simp only [State.afterPulses, CountUnit.clocked_afterEvents]

theorem pulseStep_iterate {s : State} (hs : s.InRange) (n : Nat) :
    pulseStep^[n] s = s.afterPulses n := by
  induction n with
  | zero => exact (State.afterPulses_zero hs).symm
  | succ n ih => rw [Function.iterate_succ_apply', ih, pulseStep_afterPulses]

/-- `PULSE*n` completes in every valid configuration. -/
theorem exec_pulseRep {s : State} {n : Count24} (hv : s.cfg.Valid) (hn : n ≠ 0) :
    exec (.pulseRep n) s = .next (pulseStep^[n.toNat] s) := by
  refine configured_next.mpr ⟨hv, repeated_next.mpr ⟨hn, ?_⟩⟩
  refine repeatStep_of_total (p := fun s => s.cfg.Valid) ?_ ?_ _ s hv
  · exact fun s hv => exec_pulse_next.mpr ⟨hv, rfl⟩
  · exact fun s hv => pulseStep_cfg s ▸ hv

/-- Settles O22: the run is `n` steps, and each adds one event to the closed form. -/
theorem pulseRunClosedForm : Obligations.PulseRunClosedForm := by
  intro s n hv hs hn
  rw [exec_pulseRep hv hn, pulseStep_iterate hs, State.afterPulses]

/-! ### Operations that run alone (R102 to R104, R162) -/

/-- Settles O21: the two updates of the unit, and the codes of R84. -/
theorem pulseAccumulatorStartStop : Obligations.PulseAccumulatorStartStop :=
  ⟨fun _ hv => configured_of_valid hv, fun _ hv => configured_of_valid hv,
    identifies_of_decodeSub rfl, identifies_of_decodeSub rfl⟩

/-- Settles O40: each result goes to the bench's port, and the codes are those of R84. -/
theorem readAndFormatRunAlone : Obligations.ReadAndFormatRunAlone :=
  ⟨fun _ hv => ⟨rfl, configured_of_valid hv⟩, fun _ hv => configured_of_valid hv,
    identifies_of_decodeSub rfl, identifies_of_decodeSub rfl⟩

end Sys2Proof.Machine
end

-- The overflow extender family (41_overflow_extender.md R110 to R112): the two operations on the
-- tally, and the service that adds one to it.
section
namespace Sys2Proof.Machine

/-- Settles O23: the two updates of the tally, and the codes of R84. -/
theorem overflowExtenderOperations : Obligations.OverflowExtenderOperations :=
  ⟨fun _ hv => configured_of_valid hv, fun _ hv => configured_of_valid hv,
    identifies_of_decodeSub rfl, identifies_of_decodeSub rfl⟩

/-- `SVC_PA` is enabled while the accumulator's event is pending with its interrupt enabled
(R204). -/
theorem svcPaEnabled_iff (s : State) :
    svcPaEnabled s = true ↔ s.pa.ovf = true ∧ s.pa.ovie = true :=
  s.pa.serviceable_iff

theorem exec_svcPa_of_not_enabled {s : State} (hv : s.cfg.Valid) (h : svcPaEnabled s ≠ true) :
    exec .svcPa s = .fault .svcPaNotEnabled := by
  rw [exec, execSvcPa, configured_of_valid hv, whenEnabled, if_neg h]

/-- Settles O24: the service where the event is serviceable, the fault elsewhere, and the code of
R82. -/
theorem svcPaService : Obligations.SvcPaService := by
  refine ⟨fun s hv hovf hovie => ?enabled, fun s hv hquiet => ?stuck, itemCode_single .svcPa⟩
  case enabled =>
    have hen : svcPaEnabled s = true := (svcPaEnabled_iff s).mpr ⟨hovf, hovie⟩
    exact exec_svcPa_next.mpr ⟨hv, hen, svcPaStep_eq s⟩
  case stuck =>
    exact exec_svcPa_of_not_enabled hv (mt (svcPaEnabled_iff s).mp hquiet)

end Sys2Proof.Machine
end

-- The gate timer family (42_gate_timer.md R120 to R125): the effect of `CLK` alone and in runs, when
-- ticks and overflows come, and the operations that run alone.
section
namespace Sys2Proof

theorem Config.prescale_pos {c : Config} (hv : c.Valid) : 0 < c.prescale := by
  obtain ⟨-, -, -, -, -, hprescale, -⟩ := hv
  exact hprescale

namespace Machine

/-! ### The effect of `CLK` (R120) -/

theorem exec_clk_of_tick {s : State} (hv : s.cfg.Valid) (h : s.preCnt = s.cfg.prescale - 1) :
    exec .clk s = .next { s with
      preCnt := 0
      pa := s.pa.afterEvent .int s.cfg.w1, gt := s.gt.afterEvent .int s.cfg.wg } := by
  refine exec_clk_next.mpr ⟨hv, ?_⟩
  rw [clkStep_tick (beq_iff_eq.mpr h), CountUnit.clocked_eq_afterEvent,
    CountUnit.clocked_eq_afterEvent]

theorem exec_clk_of_no_tick {s : State} (hv : s.cfg.Valid) (h : s.preCnt ≠ s.cfg.prescale - 1) :
    exec .clk s = .next { s with preCnt := s.preCnt + 1 } :=
  exec_clk_next.mpr ⟨hv, clkStep_no_tick (beq_eq_false_iff_ne.mpr h)⟩

/-- Settles O25: the generic rule, in which R46 (c) fixes the source of each running unit. -/
theorem clkEffect : Obligations.ClkEffect := by
  refine ⟨fun s => exec_clk_of_tick, fun s => exec_clk_of_no_tick, fun s hv hs htick => ?_,
    itemCode_single .clk, fun _ => rfl⟩
  have hpa : s.pa.en = true → s.pa.cs ≠ .int := fun hen => by
    rw [hs.paSource hen]
    decide
  rw [exec_clk_of_tick hv htick, CountUnit.afterEvent_of_other_source hpa,
    CountUnit.afterEvent_of_source hs.gtSource]

/-- Settles O29: the closed form of a run of `CLK`. -/
theorem clkRunClosedForm : Obligations.ClkRunClosedForm :=
  fun _ _ hv hs hn => exec_clkRep hv hs hn

/-- Settles O27: the updates of the unit and the prescaler, and the codes of R84. -/
theorem gateTimerOperations : Obligations.GateTimerOperations :=
  ⟨fun _ hv => configured_of_valid hv, fun _ hv => configured_of_valid hv,
    fun _ hv => configured_of_valid hv,
    identifies_of_decodeSub rfl, identifies_of_decodeSub rfl, identifies_of_decodeSub rfl⟩

/-! ### The prescaler and the Gate Timer in a run of `CLK`

Ticks depend on the prescaler alone and overflows of the Gate Timer on the two together, so that
nothing is asked of the other registers. -/

theorem runSteps_clk {s : State} (hv : s.cfg.Valid) (n : Nat) :
    runSteps (List.replicate n .clk) s = some (clkStep^[n] s) := by
  refine repeatStep_exec_next.mp (repeatStep_of_total (p := fun s => s.cfg.Valid) ?_ ?_ n s hv)
  · exact fun s hv => exec_clk_next.mpr ⟨hv, rfl⟩
  · exact fun s hv => clkStep_cfg s ▸ hv

@[simp] theorem clkStep_iterate_cfg (n : Nat) (s : State) : (clkStep^[n] s).cfg = s.cfg := by
  induction n with
  | zero => rfl
  | succ n ih => rw [Function.iterate_succ_apply', clkStep_cfg, ih]

section
variable {s : State} (hpre : s.preCnt < s.cfg.prescale)
include hpre

theorem clkStep_preCnt : (clkStep s).preCnt = (s.preCnt + 1) % s.cfg.prescale := by
  cases h : atTick s with
  | true =>
    have hlast : s.preCnt = s.cfg.prescale - 1 := beq_iff_eq.mp h
    rw [clkStep_tick h, show s.preCnt + 1 = s.cfg.prescale by omega, Nat.mod_self]
  | false =>
    have hlast : s.preCnt ≠ s.cfg.prescale - 1 := beq_eq_false_iff_ne.mp h
    rw [clkStep_no_tick h, Nat.mod_eq_of_lt (by omega)]

theorem clkStep_iterate_preCnt (n : Nat) :
    (clkStep^[n] s).preCnt = (s.preCnt + n) % s.cfg.prescale := by
  induction n with
  | zero => exact (Nat.mod_eq_of_lt hpre).symm
  | succ n ih =>
    have hlt : (clkStep^[n] s).preCnt < (clkStep^[n] s).cfg.prescale := by
      rw [ih, clkStep_iterate_cfg]
      exact Nat.mod_lt _ (Nat.zero_lt_of_lt hpre)
    rw [Function.iterate_succ_apply', clkStep_preCnt hlt, clkStep_iterate_cfg, ih, Nat.mod_add_mod,
      Nat.add_assoc]

/-- Ticks come where the phase, counted on from the start, reaches a multiple of `PRESCALE`. -/
theorem atTick_clkStep_iterate (n : Nat) :
    atTick (clkStep^[n] s) = true ↔ s.cfg.prescale ∣ s.preCnt + n + 1 := by
  rw [atTick, beq_iff_eq, clkStep_iterate_preCnt hpre, clkStep_iterate_cfg]
  exact Nat.mod_eq_sub_iff Nat.one_pos (Nat.zero_lt_of_lt hpre)

/-- The Gate Timer counts the ticks of a run. -/
theorem clkStep_iterate_gt (hcnt : s.gt.cnt < 2 ^ s.cfg.wg) (n : Nat) :
    (clkStep^[n] s).gt = s.gt.afterEvents .int s.cfg.wg ((s.preCnt + n) / s.cfg.prescale) := by
  induction n with
  | zero => rw [Nat.add_zero, Nat.div_eq_of_lt hpre, CountUnit.afterEvents_zero hcnt]; rfl
  | succ n ih =>
    rw [Function.iterate_succ_apply', ← Nat.add_assoc, Nat.succ_div]
    cases h : atTick (clkStep^[n] s) with
    | true =>
      rw [clkStep_tick h, if_pos ((atTick_clkStep_iterate hpre n).mp h), clkStep_iterate_cfg, ih,
        CountUnit.clocked_afterEvents]
    | false =>
      have hdvd : ¬s.cfg.prescale ∣ s.preCnt + n + 1 := fun hdvd =>
        Bool.false_ne_true (h.symm.trans ((atTick_clkStep_iterate hpre n).mpr hdvd))
      rw [clkStep_no_tick h, if_neg hdvd, ih, Nat.add_zero]

end

/-! ### Ticks and overflows (R121, R125) -/

/-- A running Gate Timer and its prescaler are one counter of period `2^WG * PRESCALE`, which every
`CLK` step advances by one: the Gate Timer overflows as that counter wraps. -/
theorem wraps_gt_clkStep_iterate {s : State} (hpre : s.preCnt < s.cfg.prescale)
    (hcnt : s.gt.cnt < 2 ^ s.cfg.wg) (hen : s.gt.en = true) (hcs : s.gt.cs = .int) (n : Nat) :
    wraps .gt .clk (clkStep^[n] s) = true ↔
      2 ^ s.cfg.wg * s.cfg.prescale ∣ s.gt.cnt * s.cfg.prescale + (s.preCnt + n + 1) := by
  have hm : 0 < s.cfg.prescale := Nat.zero_lt_of_lt hpre
  have hlast (q : Nat) : (s.gt.cnt + q) % 2 ^ s.cfg.wg = 2 ^ s.cfg.wg - 1 ↔
      2 ^ s.cfg.wg ∣ s.gt.cnt + q + 1 := Nat.mod_eq_sub_iff Nat.one_pos (Nat.two_pow_pos _)
  by_cases htick : s.cfg.prescale ∣ s.preCnt + n + 1
  case pos =>
    have hat := (atTick_clkStep_iterate hpre n).mpr htick
    have hdiv : (s.preCnt + n + 1) / s.cfg.prescale = (s.preCnt + n) / s.cfg.prescale + 1 := by
      rw [Nat.succ_div, if_pos htick]
    calc wraps .gt .clk (clkStep^[n] s) = true
      _ ↔ 2 ^ s.cfg.wg ∣ s.gt.cnt + (s.preCnt + n) / s.cfg.prescale + 1 := by
        simp [wraps, hat, clkStep_iterate_gt hpre hcnt, CountUnit.afterEvents, hen, hcs, hlast]
      _ ↔ 2 ^ s.cfg.wg * s.cfg.prescale ∣ s.gt.cnt * s.cfg.prescale + (s.preCnt + n + 1) := by
        rw [Nat.add_assoc, ← hdiv, ← Nat.mul_dvd_mul_iff_right hm, Nat.add_mul,
          Nat.div_mul_cancel htick]
  case neg =>
    have hat : atTick (clkStep^[n] s) = false :=
      Bool.eq_false_of_not_eq_true fun h => htick ((atTick_clkStep_iterate hpre n).mp h)
    refine iff_of_false (by simp [wraps, hat]) fun hdvd => htick ?_
    exact (Nat.dvd_add_right (Nat.dvd_mul_left _ _)).mp (Nat.dvd_trans (Nat.dvd_mul_left _ _) hdvd)

/-- Settles O26: both periods are read off a run from phase 0. -/
theorem ticksAndOverflowsArePeriodic : Obligations.TicksAndOverflowsArePeriodic := by
  intro s k hv hzero
  have hpre : s.preCnt < s.cfg.prescale := hzero ▸ Config.prescale_pos hv
  refine ⟨_, runSteps_clk hv k, ?tick, fun hcnt hen hcs => ?overflow⟩
  case tick =>
    rw [atTick_clkStep_iterate hpre, hzero, Nat.zero_add, Nat.dvd_iff_mod_eq_zero]
  case overflow =>
    rw [wraps_gt_clkStep_iterate hpre (hcnt ▸ Nat.two_pow_pos _) hen hcs, hcnt, hzero, Nat.zero_mul,
      Nat.zero_add, Nat.zero_add, Nat.dvd_iff_mod_eq_zero]

/-- Settles O28: the preload stands `GATE_RESIDUAL_TICKS` ticks before the wrap, and no earlier `CLK`
step of the run reaches it. -/
theorem lastIntervalLength : Obligations.LastIntervalLength := by
  intro s k hv hzero hen hcs hk
  have ⟨_, _, _, _, _, _, hbudget, _⟩ := hv
  have hpre : s.preCnt < s.cfg.prescale := hzero ▸ Config.prescale_pos hv
  have hwrap := wraps_gt_clkStep_iterate (s := gtLoad s) hpre (Config.gatePreload_lt hv) hen hcs k
  refine ⟨gtLoad s, _, configured_of_valid hv, runSteps_clk (s := gtLoad s) hv k, hwrap.trans ?_⟩
  show 2 ^ s.cfg.wg * s.cfg.prescale ∣ s.cfg.gatePreload * s.cfg.prescale + (s.preCnt + k + 1) ↔ _
  have hperiod : s.cfg.gatePreload * s.cfg.prescale + s.cfg.gateResidualTicks * s.cfg.prescale =
      2 ^ s.cfg.wg * s.cfg.prescale := by
    rw [← Nat.add_mul, Config.gatePreload_add_residual hbudget, Config.ovfPeriod]
  rw [hzero, Nat.zero_add, ← hperiod]
  constructor
  · intro hdvd
    have hle := Nat.le_of_dvd (by omega) hdvd
    omega
  · exact fun hlast => hlast ▸ Nat.dvd_refl _

end Machine
end Sys2Proof
end

-- The gate sequencer family (43_gate_sequencer.md R135 to R142): the behaviours of `GS_STEP`, the
-- service that runs them, and how many services and `CLK` steps a gate takes.
section
namespace Sys2Proof.Machine

/-! ### The behaviours of `GS_STEP` (R135 to R139) -/

/-- The model's decrement as the rules write it. -/
theorem subMod_one (n a : Nat) : subMod n a 1 = (a + 2 ^ n - 1) % 2 ^ n := by
  rw [subMod, Nat.add_sub_assoc Nat.one_le_two_pow]

/-- `GS_STEP`, and the selected row run in its place, have the effect of `GS_STEP`. -/
theorem exec_gsStep_or_row {s : State} (hv : s.cfg.Valid) {i : Instr}
    (hi : i ∈ [.gsStep, s.gsState.row]) : exec i s = .next (gsStep s) := by
  have hstep : exec .gsStep s = .next (gsStep s) := configured_of_valid hv
  rcases List.mem_pair.mp hi with rfl | rfl
  · exact hstep
  · rw [← exec_gsStep_eq_row, hstep]

/-- Settles O30: each row is `GS_STEP` in the state that selects it, and the decrement decides
between the two effects in `COUNTING`. -/
theorem gateSequencerBehaviours : Obligations.GateSequencerBehaviours := by
  refine ⟨fun s hv => configured_of_valid hv, fun i hi s hv hg => ?counting,
    fun i hi s hv hg => ?lastInterval, fun i hi s hv hg => ?complete,
    identifies_of_decodeSub rfl, identifies_of_decodeSub rfl⟩
  all_goals
    have hexec : exec i s = .next (gsStep s) := exec_gsStep_or_row hv (by rw [hg]; exact hi)
    rw [hexec]
  case counting =>
    have hstep : gsStep s = gsStepCounting s := by rw [gsStep, hg]
    rw [hstep, ← subMod_one]
    obtain ⟨hzero, e⟩ | ⟨hmore, e⟩ := gsStepCounting_cases s
    · exact ⟨fun _ => congrArg _ e, fun hmore => absurd hzero hmore⟩
    · exact ⟨fun hzero => absurd hzero hmore, fun _ => congrArg _ e⟩
  case lastInterval =>
    have hstep : gsStep s = gsStepLastInterval s := by rw [gsStep, hg]
    rw [hstep, gsStepLastInterval_eq]
  case complete =>
    have hstep : gsStep s = s := by rw [gsStep, hg, gsStepComplete]
    rw [hstep]

/-! ### The service (R140) -/

/-- `SVC_GT` is enabled while the Gate Timer's event is pending with its interrupt enabled
(R204). -/
theorem svcGtEnabled_iff (s : State) :
    svcGtEnabled s = true ↔ s.gt.ovf = true ∧ s.gt.ovie = true :=
  s.gt.serviceable_iff

theorem exec_svcGt_of_not_enabled {s : State} (hv : s.cfg.Valid) (h : svcGtEnabled s ≠ true) :
    exec .svcGt s = .fault .svcGtNotEnabled := by
  rw [exec, execSvcGt, configured_of_valid hv, whenEnabled, if_neg h]

/-- Settles O31: an enabled service is `GS_STEP` from the state with the event cleared, so its
effects are those of the behaviours. -/
theorem svcGtService : Obligations.SvcGtService := by
  refine ⟨fun s hv hovf hovie => ?enabled, fun s hv hquiet => ?stuck, itemCode_single .svcGt⟩
  case enabled =>
    obtain ⟨-, hcounting, hlast, hcomplete, -⟩ := gateSequencerBehaviours
    let acked : State := { s with gt := { s.gt with ovf := false } }
    have hi {j : Instr} : Instr.gsStep ∈ [Instr.gsStep, j] := List.mem_cons_self
    rw [exec_svcGt_of_enabled ((svcGtEnabled_iff s).mpr ⟨hovf, hovie⟩)]
    exact ⟨fun hg => (hcounting _ hi acked hv hg).1, fun hg => (hcounting _ hi acked hv hg).2,
      hlast _ hi acked hv, hcomplete _ hi acked hv⟩
  case stuck => exact exec_svcGt_of_not_enabled hv (mt (svcGtEnabled_iff s).mp hquiet)

/-! ### How `GS_STATE` may change (R141) -/

/-- The transitions of the service. -/
theorem svcGtStep_transitions (s : State) :
    (svcGtStep s).gsState = s.gsState ∨
    (s.gsState = .counting ∧ (svcGtStep s).gsState = .lastInterval ∧ (svcGtStep s).gsRemain = 0) ∨
    (s.gsState = .lastInterval ∧ (svcGtStep s).gsState = .complete) := by
  obtain ⟨hg, e⟩ | ⟨hg, e⟩ | ⟨hg, e⟩ := svcGtStep_cases s
  · rw [e]
    obtain ⟨-, e'⟩ | ⟨-, e'⟩ := gsStepCounting_cases (s.setGt { s.gt with ovf := false })
    · rw [e']
      exact .inr (.inl ⟨hg, rfl, rfl⟩)
    · rw [e']
      exact .inl rfl
  · rw [e]
    exact .inr (.inr ⟨hg, rfl⟩)
  · rw [e]
    exact .inl rfl

/-- Settles O32: the frame of each step, with the transitions of the service and the value that the
restart and `RESET` write. -/
theorem gateSequencerTransitions : Obligations.GateSequencerTransitions := by
  intro st s t ht
  rw [take_some] at ht
  cases st with
  | clk =>
    obtain ⟨-, rfl⟩ := exec_clk_next.mp ht
    obtain ⟨_, _, _, e, -⟩ := clkStep_counted s
    exact .inl (by rw [e])
  | pulse =>
    obtain ⟨-, rfl⟩ := exec_pulse_next.mp ht
    exact .inl (by rw [pulseStep_eq])
  | svcPa =>
    obtain ⟨-, -, rfl⟩ := exec_svcPa_next.mp ht
    exact .inl rfl
  | svcGt =>
    obtain ⟨-, -, rfl⟩ := exec_svcGt_next.mp ht
    obtain h | h | h := svcGtStep_transitions s
    · exact .inl h
    · exact .inr (.inl ⟨rfl, h⟩)
    · exact .inr (.inr (.inl ⟨rfl, h⟩))
  | main =>
    obtain ⟨-, -, rfl⟩ := exec_main_next.mp ht
    by_cases hc : s.cState = .restart
    · refine .inr (.inr (.inr ⟨?_, .inr ⟨rfl, hc⟩⟩))
      rw [mainStep, hc]
      rfl
    · obtain ⟨_, _, _, _, e, -⟩ := mainStep_ownership hc
      exact .inl (by rw [e])
  | reset =>
    obtain ⟨-, rfl⟩ := exec_reset_next.mp ht
    exact .inr (.inr (.inr ⟨rfl, .inl rfl⟩))

/-! ### A gate from its start to its close

What a step within a cycle can do to the gate is said once, by `GateStep`. The number of services
and the length of the gate are then each a quantity that every step accounts for. -/

/-- A gate is being timed: the Gate Timer counts the internal clock, its registers are in range, and
overflows remain as long as the sequencer counts them. -/
structure State.GateRunning (s : State) : Prop where
  enabled : s.gt.en = true
  internal : s.gt.cs = .int
  cnt : s.gt.cnt < 2 ^ s.cfg.wg
  preCnt : s.preCnt < s.cfg.prescale
  remain : s.gsState = .counting → 1 ≤ s.gsRemain ∧ s.gsRemain < 2 ^ s.cfg.wb
  notComplete : s.gsState ≠ .complete

/-- Equal in all fields that time the gate. -/
structure SameGate (s t : State) : Prop where
  cfg : t.cfg = s.cfg
  gt : t.gt = s.gt
  preCnt : t.preCnt = s.preCnt
  gsRemain : t.gsRemain = s.gsRemain
  gsState : t.gsState = s.gsState

/-- Everything a step within a cycle can do to a running gate. -/
inductive GateStep (s : State) : TraceStep → State → Prop
  /-- A step that is neither `CLK` nor `SVC_GT`. -/
  | idle {st : TraceStep} {t : State} (hclk : st ≠ .clk) (hsvc : st ≠ .svcGt)
      (hwraps : wraps .gt st s = false) (hsame : SameGate s t) : GateStep s st t
  /-- `CLK` between ticks. -/
  | phase (htick : atTick s = false) (hpre : s.preCnt + 1 < s.cfg.prescale) :
      GateStep s .clk { s with preCnt := s.preCnt + 1 }
  /-- `CLK` on a tick that the Gate Timer counts without wrapping. -/
  | tick (pa : CountUnit) (htick : atTick s = true) (hpre : s.preCnt + 1 = s.cfg.prescale)
      (hcnt : s.gt.cnt + 1 < 2 ^ s.cfg.wg) :
      GateStep s .clk { s with preCnt := 0, pa := pa, gt := { s.gt with cnt := s.gt.cnt + 1 } }
  /-- `CLK` on a tick that wraps the Gate Timer. -/
  | wrap (pa : CountUnit) (hwraps : wraps .gt .clk s = true)
      (hpre : s.preCnt + 1 = s.cfg.prescale) (hcnt : s.gt.cnt + 1 = 2 ^ s.cfg.wg) :
      GateStep s .clk { s with preCnt := 0, pa := pa, gt := { s.gt with cnt := 0, ovf := true } }
  /-- `SVC_GT` with overflows left after it. -/
  | countdown (r : Nat) (hovf : s.gt.ovf = true) (hgs : s.gsState = .counting)
      (hr : s.gsRemain = r + 1) (hpos : 1 ≤ r) :
      GateStep s .svcGt { s with gt := { s.gt with ovf := false }, gsRemain := r }
  /-- `SVC_GT` that begins the last interval. -/
  | preload (hovf : s.gt.ovf = true) (hgs : s.gsState = .counting) (hr : s.gsRemain = 1) :
      GateStep s .svcGt { s with
        gt := { s.gt with ovf := false, cnt := s.cfg.gatePreload },
        gsRemain := 0, gsState := .lastInterval }
  /-- `SVC_GT` that closes the gate. -/
  | close {t : State} (hovf : s.gt.ovf = true) (hgs : s.gsState = .lastInterval)
      (hclosed : t.GateClosed) (hcomplete : t.gsState = .complete) : GateStep s .svcGt t

section
variable {s : State} (h : s.GateRunning)
include h

theorem gateStep_clk : GateStep s .clk (clkStep s) := by
  have hpre := h.preCnt
  have hcnt := h.cnt
  have hrun : s.gt.en = true ∧ s.gt.cs = .int := ⟨h.enabled, h.internal⟩
  have hclocked : s.gt.clocked .int s.cfg.wg = s.gt.count s.cfg.wg := if_pos hrun
  cases htick : atTick s with
  | false =>
    have hlast : s.preCnt ≠ s.cfg.prescale - 1 := beq_eq_false_iff_ne.mp htick
    rw [clkStep_no_tick htick]
    exact .phase htick (by omega)
  | true =>
    have hlast : s.preCnt = s.cfg.prescale - 1 := beq_iff_eq.mp htick
    rw [clkStep_tick htick, hclocked]
    by_cases hmax : s.gt.cnt = 2 ^ s.cfg.wg - 1
    · rw [CountUnit.count_of_wrap hmax]
      exact .wrap _ (by simp [wraps, htick, hrun, hmax]) (by omega) (by omega)
    · rw [CountUnit.count_of_no_wrap hmax]
      exact .tick _ htick (by omega) (by omega)

theorem gateStep_svcGt (hovf : s.gt.ovf = true) : GateStep s .svcGt (svcGtStep s) := by
  obtain ⟨hgs, e⟩ | ⟨hgs, e⟩ | ⟨hgs, -⟩ := svcGtStep_cases s
  · obtain ⟨hpos, hlt⟩ := h.remain hgs
    have hdec : subMod s.cfg.wb s.gsRemain 1 = s.gsRemain - 1 := subMod_one_of_pos hpos hlt
    rw [e]
    obtain ⟨hzero, e'⟩ | ⟨hmore, e'⟩ :=
      gsStepCounting_cases (s.setGt { s.gt with ovf := false }) <;> rw [e']
    · have hzero : s.gsRemain - 1 = 0 := hdec ▸ hzero
      exact .preload hovf hgs (by omega)
    · have hmore : s.gsRemain - 1 ≠ 0 := hdec ▸ hmore
      have hstep := GateStep.countdown (s.gsRemain - 1) hovf hgs (by omega) (by omega)
      rwa [← hdec] at hstep
  · rw [e]
    exact .close hovf hgs ⟨rfl, rfl, rfl⟩ rfl
  · exact absurd hgs h.notComplete

theorem take_gateStep {st : TraceStep} {t : State} (ht : take st s = some t) (hreset : st ≠ .reset)
    (hrestart : st = .main → s.cState ≠ .restart) : GateStep s st t := by
  rw [take_some] at ht
  cases st with
  | clk =>
    obtain ⟨-, rfl⟩ := exec_clk_next.mp ht
    exact gateStep_clk h
  | pulse =>
    obtain ⟨-, rfl⟩ := exec_pulse_next.mp ht
    have hclocked : s.gt.clocked .ext s.cfg.wg = s.gt := by simp [CountUnit.clocked, h.internal]
    rw [pulseStep_eq, hclocked]
    exact .idle nofun nofun (by simp [wraps, h.internal]) ⟨rfl, rfl, rfl, rfl, rfl⟩
  | svcPa =>
    obtain ⟨-, -, rfl⟩ := exec_svcPa_next.mp ht
    exact .idle nofun nofun (by simp [wraps]) ⟨rfl, rfl, rfl, rfl, rfl⟩
  | svcGt =>
    obtain ⟨-, hen, rfl⟩ := exec_svcGt_next.mp ht
    exact gateStep_svcGt h ((svcGtEnabled_iff s).mp hen).1
  | main =>
    obtain ⟨-, -, rfl⟩ := exec_main_next.mp ht
    obtain ⟨_, _, _, _, e, -⟩ := mainStep_ownership (hrestart rfl)
    rw [e]
    exact .idle nofun nofun (by simp [wraps]) ⟨rfl, rfl, rfl, rfl, rfl⟩
  | reset => exact absurd rfl hreset

end

/-- A state of a cycle, as the gate sees it: its gate is running, or closed and complete. -/
def State.InCycle (s : State) : Prop :=
  s.GateRunning ∨ s.GateClosed ∧ s.gsState = .complete

theorem CycleStart.gateRunning {s : State} (h : CycleStart s) (hv : s.cfg.Valid) :
    s.GateRunning := by
  have ⟨_, _, _, _, _, _, hbudget, _⟩ := hv
  have hgt := h.gt
  refine ⟨by rw [hgt], by rw [hgt], ?_, ?_, fun _ => ?_, by simp [h.gsState]⟩
  · rw [hgt]
    exact Nat.two_pow_pos _
  · rw [h.preCnt]
    exact Config.prescale_pos hv
  · rw [h.gsRemain]
    exact ⟨hbudget, Config.gateBudget_lt hv⟩

/-- A running gate runs on or is closed. -/
theorem GateStep.inCycle {s t : State} {st : TraceStep} (hstep : GateStep s st t)
    (h : s.GateRunning) (hv : s.cfg.Valid) : t.InCycle := by
  cases hstep with
  | idle _ _ _ hsame =>
    obtain ⟨hcfg, hgt, hpre, hr, hgs⟩ := hsame
    exact .inl ⟨hgt ▸ h.enabled, hgt ▸ h.internal, by rw [hgt, hcfg]; exact h.cnt,
      by rw [hpre, hcfg]; exact h.preCnt, by rw [hgs, hr, hcfg]; exact h.remain,
      hgs ▸ h.notComplete⟩
  | phase _ hpre => exact .inl { h with preCnt := hpre }
  | tick _ _ _ hcnt => exact .inl { h with preCnt := Config.prescale_pos hv, cnt := hcnt }
  | wrap => exact .inl { h with preCnt := Config.prescale_pos hv, cnt := Nat.two_pow_pos _ }
  | countdown r _ hgs hr hpos =>
    have hlt := (h.remain hgs).2
    exact .inl { h with remain := fun _ => ⟨hpos, by show r < 2 ^ s.cfg.wb; omega⟩ }
  | preload =>
    exact .inl { h with cnt := Config.gatePreload_lt hv, remain := nofun, notComplete := nofun }
  | close _ _ hclosed hcomplete => exact .inr ⟨hclosed, hcomplete⟩

/-- Only the restart and `RESET` leave `COMPLETE`. -/
theorem gateSequencer_stays_complete {s t : State} {st : TraceStep} (hgs : s.gsState = .complete)
    (ht : take st s = some t) (hreset : st ≠ .reset)
    (hrestart : st = .main → s.cState ≠ .restart) : t.gsState = .complete := by
  obtain hkept | ⟨-, hc, -⟩ | ⟨-, hl, -⟩ | ⟨-, hr | ⟨hm, hc⟩⟩ :=
    gateSequencerTransitions st s t ht
  · exact hkept.trans hgs
  · exact absurd (hgs.symm.trans hc) nofun
  · exact absurd (hgs.symm.trans hl) nofun
  · exact absurd hr hreset
  · exact absurd hc (hrestart hm)

/-- Within a cycle, a step is a step of the running gate or finds it closed and leaves it so. -/
theorem take_inCycle {s t : State} {st : TraceStep} (h : s.InCycle) (ht : take st s = some t)
    (hreset : st ≠ .reset) (hrestart : st = .main → s.cState ≠ .restart) :
    (s.GateRunning ∧ GateStep s st t ∧ t.InCycle) ∨
    (s.GateClosed ∧ s.gsState = .complete ∧ st ≠ .svcGt ∧
      t.GateClosed ∧ t.gsState = .complete) := by
  obtain hrun | ⟨hclosed, hgs⟩ := h
  · have hstep := take_gateStep hrun ht hreset hrestart
    exact .inl ⟨hrun, hstep, hstep.inCycle hrun (exec_next_valid (take_some.mp ht))⟩
  · refine .inr ⟨hclosed, hgs, ?_, (take_gateClosed hclosed ht hreset hrestart).1, ?_⟩
    · rintro rfl
      obtain ⟨-, hen, -⟩ := exec_svcGt_next.mp (take_some.mp ht)
      exact absurd ((svcGtEnabled_of_gateClosed hclosed).symm.trans hen) Bool.false_ne_true
    · exact gateSequencer_stays_complete hgs ht hreset hrestart

/-! ### The number of services (R141) -/

/-- Services of the Gate Timer until the gate is complete. -/
def State.servicesDue (s : State) : Nat :=
  match s.gsState with
  | .counting => s.gsRemain + 1
  | .lastInterval => 1
  | .complete => 0

theorem State.servicesDue_of_counting {s : State} (h : s.gsState = .counting) :
    s.servicesDue = s.gsRemain + 1 := by
  rw [servicesDue, h]

theorem State.servicesDue_of_lastInterval {s : State} (h : s.gsState = .lastInterval) :
    s.servicesDue = 1 := by
  rw [servicesDue, h]

theorem State.servicesDue_of_complete {s : State} (h : s.gsState = .complete) :
    s.servicesDue = 0 := by
  rw [servicesDue, h]

/-- A service takes one of those due, and no other step does. -/
theorem GateStep.servicesDue {s t : State} {st : TraceStep} (hstep : GateStep s st t) :
    s.servicesDue = t.servicesDue + if st = .svcGt then 1 else 0 := by
  cases hstep with
  | idle _ hsvc _ hsame =>
    rw [if_neg hsvc, State.servicesDue, State.servicesDue, hsame.gsState, hsame.gsRemain]
    rfl
  | phase | tick | wrap => rfl
  | countdown r _ hgs hr => simp [State.servicesDue, hgs, hr]
  | preload _ hgs hr => simp [State.servicesDue, hgs, hr]
  | close _ hgs _ hcomplete =>
    rw [State.servicesDue_of_lastInterval hgs, State.servicesDue_of_complete hcomplete]
    rfl

/-- The induction over the steps of the cycle. -/
theorem runSteps_servicesDue {steps : List TraceStep} {s t : State} (h : s.InCycle)
    (hcycle : withinCycle steps s = true) (ht : runSteps steps s = some t) :
    s.servicesDue = t.servicesDue + steps.count .svcGt := by
  induction steps generalizing s with
  | nil => cases ht; rfl
  | cons st rest ih =>
    obtain ⟨u, hu, ht⟩ := runSteps_cons.mp ht
    obtain ⟨hreset, hrestart, hcycle⟩ := (withinCycle_cons hu).mp hcycle
    simp only [List.count_cons, beq_iff_eq]
    obtain ⟨-, hstep, hin⟩ | ⟨-, hgs, hsvc, hclosed, hcomplete⟩ := take_inCycle h hu hreset hrestart
    · rw [hstep.servicesDue, ih hin hcycle ht, Nat.add_assoc]
    · rw [if_neg hsvc, Nat.add_zero, ← ih (.inr ⟨hclosed, hcomplete⟩) hcycle ht,
        State.servicesDue_of_complete hgs, State.servicesDue_of_complete hcomplete]

/-- Settles O55: the start of a cycle owes one service more than its budget, a complete gate
none. -/
theorem servicesPerCycle : Obligations.ServicesPerCycle := by
  intro s t steps hv hs hcycle ht hcomplete
  have hdue := runSteps_servicesDue (.inl (hs.gateRunning hv)) hcycle ht
  rw [State.servicesDue_of_complete hcomplete, State.servicesDue_of_counting hs.gsState,
    hs.gsRemain, Nat.zero_add] at hdue
  exact hdue.symm

/-! ### The length of an exact gate (R142, R212) -/

/-- The Gate Timer and its prescaler as one counter of `CLK` steps, carrying on through an overflow
until that is serviced. -/
def State.gatePosition (s : State) : Nat :=
  (s.gt.ovf.toNat * 2 ^ s.cfg.wg + s.gt.cnt) * s.cfg.prescale + s.preCnt

/-- `CLK` steps left until the gate is due to close, negative where its service is late. -/
def State.gateLeft (s : State) : Int :=
  match s.gsState with
  | .counting =>
    (s.gsRemain * 2 ^ s.cfg.wg + s.cfg.gateResidualTicks) * s.cfg.prescale - s.gatePosition
  | .lastInterval => 2 ^ s.cfg.wg * s.cfg.prescale - s.gatePosition
  | .complete => 0

theorem State.gateLeft_of_counting {s : State} (h : s.gsState = .counting) : s.gateLeft =
    (s.gsRemain * 2 ^ s.cfg.wg + s.cfg.gateResidualTicks) * s.cfg.prescale - s.gatePosition := by
  rw [gateLeft, h]

theorem State.gateLeft_of_lastInterval {s : State} (h : s.gsState = .lastInterval) :
    s.gateLeft = 2 ^ s.cfg.wg * s.cfg.prescale - s.gatePosition := by
  rw [gateLeft, h]

theorem State.gateLeft_of_complete {s : State} (h : s.gsState = .complete) : s.gateLeft = 0 := by
  rw [gateLeft, h]

/-- The whole gate is left at its start. -/
theorem CycleStart.gateLeft {s : State} (h : CycleStart s) (hv : s.cfg.Valid) :
    s.gateLeft = s.cfg.gateClks := by
  have ⟨_, _, _, _, _, _, hbudget, _⟩ := hv
  have hzero : s.gatePosition = 0 := by simp [State.gatePosition, h.gt, h.preCnt]
  rw [State.gateLeft_of_counting h.gsState, hzero, h.gsRemain, Config.gateClks,
    ← Config.gateSplit hbudget, Config.ovfPeriod]
  push_cast
  ring

/-- The lateness tells whether a tick, or any event at all, has come since the overflow that is
pending. -/
def State.LateBy (s : State) (l : Lateness) : Prop :=
  s.gt.ovf = true → (l.ticks = 0 → s.gt.cnt = 0) ∧ (l.events = 0 → s.gt.cnt = 0 ∧ s.preCnt = 0)

/-- With no event pending there is nothing to be late for. -/
theorem State.LateBy.of_no_event {s : State} (h : s.gt.ovf = false) (l : Lateness) : s.LateBy l :=
  fun hovf => absurd (h.symm.trans hovf) Bool.false_ne_true

/-- Every step keeps the lateness true. -/
theorem GateStep.lateBy {s t : State} {st : TraceStep} {l : Lateness} (hstep : GateStep s st t)
    (h : s.LateBy l) : t.LateBy (l.after st s) := by
  cases hstep with
  | idle hclk _ hwraps hsame =>
    obtain ⟨-, hgt, hpre, -, -⟩ := hsame
    intro hovf
    rw [hgt, hpre]
    obtain ⟨hticks, hevents⟩ := h (hgt ▸ hovf)
    unfold Lateness.after
    rw [hwraps]
    cases st with
    | clk => exact absurd rfl hclk
    | pulse => exact ⟨hticks, nofun⟩
    | svcPa | svcGt | main | reset => exact ⟨hticks, hevents⟩
  | phase htick =>
    have hwraps : wraps .gt .clk s = false := by simp [wraps, htick]
    intro hovf
    rw [Lateness.after, hwraps, htick]
    exact ⟨(h hovf).1, nofun⟩
  | tick _ htick _ hcnt =>
    have hwraps : wraps .gt .clk s = false := by
      have hne : s.gt.cnt ≠ 2 ^ s.cfg.wg - 1 := by omega
      simp [wraps, hne]
    intro _
    rw [Lateness.after, hwraps, htick]
    exact ⟨nofun, nofun⟩
  | wrap => exact fun _ => ⟨fun _ => rfl, fun _ => ⟨rfl, rfl⟩⟩
  | countdown | preload => exact .of_no_event rfl _
  | close _ _ hclosed => exact .of_no_event hclosed.noGateEvent _

/-- While the sequencer stays, the gate comes nearer to its end as its position goes on. -/
theorem State.gateLeft_eq_add {s t : State} {k : Nat} (hcfg : t.cfg = s.cfg)
    (hgs : t.gsState = s.gsState) (hr : t.gsRemain = s.gsRemain) (hopen : s.gsState ≠ .complete)
    (hpos : t.gatePosition = s.gatePosition + k) : s.gateLeft = t.gateLeft + k := by
  cases h : s.gsState with
  | counting =>
    rw [gateLeft_of_counting h, gateLeft_of_counting (hgs.trans h), hcfg, hr, hpos]
    push_cast
    ring
  | lastInterval =>
    rw [gateLeft_of_lastInterval h, gateLeft_of_lastInterval (hgs.trans h), hcfg, hpos]
    push_cast
    ring
  | complete => exact absurd h hopen

/-- Where no overflow is lost, the preload comes before the next tick and the close before any
event, every `CLK` step takes one from what is left of the gate, and no other step changes it. -/
theorem GateStep.gateLeft {s t : State} {st : TraceStep} {l : Lateness} (hstep : GateStep s st t)
    (h : s.GateRunning) (hv : s.cfg.Valid) (hlate : s.LateBy l)
    (hlost : wraps .gt st s = true → s.gt.ovf = false) (hpunctual : punctual st s l = true) :
    s.gateLeft = t.gateLeft + if st = .clk ∧ s.gt.en = true then 1 else 0 := by
  cases hstep with
  | idle hclk _ _ hsame =>
    obtain ⟨hcfg, hgt, hpre, hr, hgs⟩ := hsame
    rw [if_neg fun hc => hclk hc.1]
    exact State.gateLeft_eq_add hcfg hgs hr h.notComplete
      (by rw [State.gatePosition, State.gatePosition, hcfg, hgt, hpre, Nat.add_zero])
  | phase =>
    rw [if_pos ⟨rfl, h.enabled⟩]
    exact State.gateLeft_eq_add rfl rfl rfl h.notComplete rfl
  | tick _ _ hpre =>
    rw [if_pos ⟨rfl, h.enabled⟩]
    refine State.gateLeft_eq_add rfl rfl rfl h.notComplete ?_
    simp only [State.gatePosition, ← hpre]
    ring
  | wrap _ hwraps hpre hcnt =>
    rw [if_pos ⟨rfl, h.enabled⟩]
    refine State.gateLeft_eq_add rfl rfl rfl h.notComplete ?_
    simp only [State.gatePosition, hlost hwraps, Bool.toNat_false, Bool.toNat_true, ← hcnt, ← hpre]
    ring
  | countdown r hovf hgs hr =>
    simp only [State.gateLeft, State.gatePosition, hgs, hovf, hr, Bool.toNat_false, Bool.toNat_true]
    push_cast
    rw [if_neg (by simp)]
    ring
  | preload hovf hgs hr =>
    have ⟨_, _, _, _, _, _, hbudget, _⟩ := hv
    have hsplit : (s.cfg.gatePreload + s.cfg.gateResidualTicks : Int) = 2 ^ s.cfg.wg := by
      exact_mod_cast Config.gatePreload_add_residual hbudget
    obtain ⟨hpos, hlt⟩ := h.remain hgs
    have hdec : subMod s.cfg.wb s.gsRemain 1 = 0 := by rw [subMod_one_of_pos hpos hlt, hr]
    have hcnt : s.gt.cnt = 0 := (hlate hovf).1 (by simpa [punctual, hgs, hdec] using hpunctual)
    simp only [State.gateLeft, State.gatePosition, hgs, hovf, hr, hcnt, Bool.toNat_false,
      Bool.toNat_true]
    push_cast
    rw [if_neg (by simp)]
    linear_combination s.cfg.prescale * hsplit
  | close hovf hgs _ hcomplete =>
    obtain ⟨hcnt, hpre⟩ := (hlate hovf).2 (by simpa [punctual, hgs] using hpunctual)
    rw [State.gateLeft_of_lastInterval hgs, State.gateLeft_of_complete hcomplete]
    simp [State.gatePosition, hovf, hcnt, hpre]

/-! #### The predicates of R142, R211 and R212 at an execution's first step -/

section
variable {st : TraceStep} {rest : List TraceStep} {s t : State} (ht : take st s = some t)
include ht

theorem noLostOverflow_cons (id : UnitId) : noLostOverflow id (st :: rest) s = true ↔
    (wraps id st s = true → (s.unit id).ovf = false) ∧ noLostOverflow id rest t = true := by
  cases hw : wraps id st s <;> simp [noLostOverflow, ht, hw]

theorem punctualFrom_cons (l : Lateness) : punctualFrom l (st :: rest) s = true ↔
    punctual st s l = true ∧ punctualFrom (l.after st s) rest t = true := by
  simp [punctualFrom, ht]

theorem clksGated_cons : clksGated (st :: rest) s =
    (if st = .clk ∧ s.gt.en = true then 1 else 0) + clksGated rest t := by
  simp [clksGated, ht]

end

/-- The induction over the steps of the cycle. -/
theorem runSteps_gateLeft {steps : List TraceStep} {s t : State} {l : Lateness} (h : s.InCycle)
    (hlate : s.LateBy l) (hcycle : withinCycle steps s = true)
    (hlost : noLostOverflow .gt steps s = true) (hpunctual : punctualFrom l steps s = true)
    (ht : runSteps steps s = some t) : s.gateLeft = t.gateLeft + clksGated steps s := by
  induction steps generalizing s l with
  | nil => cases ht; exact (add_zero _).symm
  | cons st rest ih =>
    obtain ⟨u, hu, ht⟩ := runSteps_cons.mp ht
    obtain ⟨hreset, hrestart, hcycle⟩ := (withinCycle_cons hu).mp hcycle
    obtain ⟨hkept, hlost⟩ := (noLostOverflow_cons hu .gt).mp hlost
    obtain ⟨hfirst, hpunctual⟩ := (punctualFrom_cons hu l).mp hpunctual
    rw [clksGated_cons hu]
    push_cast
    obtain ⟨hrun, hstep, hin⟩ | ⟨hclosed, hgs, -, hclosed', hcomplete⟩ :=
      take_inCycle h hu hreset hrestart
    · have hv := exec_next_valid (take_some.mp hu)
      rw [hstep.gateLeft hrun hv hlate hkept hfirst,
        ih hin (hstep.lateBy hlate) hcycle hlost hpunctual ht]
      ring
    · have hlate' : u.LateBy (l.after st s) := .of_no_event hclosed'.noGateEvent _
      have hrest := ih (.inr ⟨hclosed', hcomplete⟩) hlate' hcycle hlost hpunctual ht
      rw [State.gateLeft_of_complete hcomplete] at hrest
      simp [State.gateLeft_of_complete hgs, hclosed.gtStopped, ← hrest]

/-- Settles O54: at its start a cycle has `GATE_CLKS` steps of its gate left, at its close none. -/
theorem exactGateLastsGateClks : Obligations.ExactGateLastsGateClks := by
  intro s t steps hv hs hcycle hexact ht hcomplete
  obtain ⟨hlost, hpunctual⟩ := Bool.and_eq_true_iff.mp hexact
  have hlate : s.LateBy ⟨0, 0⟩ := .of_no_event (by rw [hs.gt]) _
  have hleft := runSteps_gateLeft (.inl (hs.gateRunning hv)) hlate hcycle hlost hpunctual ht
  rw [hs.gateLeft hv, State.gateLeft_of_complete hcomplete, zero_add] at hleft
  exact_mod_cast hleft.symm

end Sys2Proof.Machine
end

-- The measurement controller family (44_measurement_controller.md R150 to R167): the behaviours of
-- `MAIN` and the sub-operations, the decimal text of a count, and the report that ends each cycle.
section
namespace Sys2Proof.Machine

/-! ### The behaviours of `MAIN` (R150 to R156)

One equation per state of the controller: the state with the fields that behaviour writes. -/

section
variable {s : State}

theorem mainStep_of_boot (h : s.cState = .boot) : mainStep s = { s with cState := .restart } := by
  rw [mainStep, h]
  rfl

theorem mainStep_of_poll_ready (h : s.cState = .poll) (hready : s.dataReady = true) :
    mainStep s = { s with cState := .latch } := by
  rw [mainStep, h]
  exact if_pos hready

theorem mainStep_of_poll_clear (h : s.cState = .poll) (hready : s.dataReady ≠ true) :
    mainStep s = s := by
  rw [mainStep, h]
  exact if_neg hready

theorem mainStep_of_latch (h : s.cState = .latch) :
    mainStep s = { s with
      dataReady := false, cState := .clear,
      freq := s.ovfTally * 2 ^ s.cfg.w1 + s.pa.cnt } := by
  rw [mainStep, h]
  exact mainLatch_eq s

theorem mainStep_of_clear (h : s.cState = .clear) :
    mainStep s = { s with
      cState := .write, dispLog := s.dispLog ++ [.clear s.cfg.displayLine] } := by
  rw [mainStep, h]
  exact mainClear_eq s

theorem mainStep_of_write (h : s.cState = .write) :
    mainStep s = { s with
      cState := .restart, dispLog := s.dispLog ++ [.write (decFormat s.freq)] } := by
  rw [mainStep, h]
  exact mainWrite_eq s

theorem mainStep_of_restart (h : s.cState = .restart) :
    mainStep s = { cycleRestart s with cState := .poll } := by
  rw [mainStep, h]
  exact mainRestart_eq s

end

/-- Settles O33: the behaviour that `C_STATE` selects, where `MAIN` is enabled. -/
theorem mainBehaviours : Obligations.MainBehaviours := by
  intro s hv hpa hgt
  have hexec {t : State} (h : mainStep s = t) : exec .main s = .next t :=
    exec_main_next.mpr ⟨hv, (mainEnabled_iff s).mpr ⟨hpa, hgt⟩, h⟩
  refine ⟨fun h => hexec (mainStep_of_boot h), fun h => hexec ?poll,
    fun h => hexec (mainStep_of_latch h), fun h => hexec (mainStep_of_clear h),
    fun h => hexec (mainStep_of_write h), fun h => hexec (mainStep_of_restart h)⟩
  by_cases hready : s.dataReady = true
  · rw [if_pos hready, mainStep_of_poll_ready h hready]
  · rw [if_neg hready, mainStep_of_poll_clear h hready, ← h]

/-! ### How `C_STATE` may change (R150) -/

/-- Hardware events and services leave the controller alone. -/
theorem take_cState {st : TraceStep} {s t : State} (ht : take st s = some t) (hmain : st ≠ .main)
    (hreset : st ≠ .reset) : t.cState = s.cState := by
  rw [take_some] at ht
  cases st with
  | clk =>
    obtain ⟨-, rfl⟩ := exec_clk_next.mp ht
    obtain ⟨_, _, _, e, -⟩ := clkStep_counted s
    rw [e]
  | pulse =>
    obtain ⟨-, rfl⟩ := exec_pulse_next.mp ht
    rw [pulseStep_eq]
  | svcPa =>
    obtain ⟨-, -, rfl⟩ := exec_svcPa_next.mp ht
    rfl
  | svcGt =>
    obtain ⟨-, -, rfl⟩ := exec_svcGt_next.mp ht
    obtain ⟨_, _, _, _, _, _, e, -⟩ := svcGtStep_ownership s
    rw [e]
  | main => exact absurd rfl hmain
  | reset => exact absurd rfl hreset

/-- Settles O35: only `RESET` and `MAIN` write `C_STATE`, `MAIN` as its behaviours say. -/
theorem controllerTransitions : Obligations.ControllerTransitions := by
  intro st s t ht
  refine ⟨take_cState ht, ?reset, ?main⟩
  case reset =>
    rintro rfl
    obtain ⟨-, rfl⟩ := exec_reset_next.mp (take_some.mp ht)
    rfl
  case main =>
    rintro rfl
    obtain ⟨-, -, rfl⟩ := exec_main_next.mp (take_some.mp ht)
    refine ⟨fun h => ?_, fun h hready => ?_, fun h hready => ?_, fun h => ?_, fun h => ?_,
      fun h => ?_, fun h => ?_⟩
    · rw [mainStep_of_boot h]
    · rw [mainStep_of_poll_ready h hready]
    · exact mainStep_of_poll_clear h (ne_true_of_eq_false hready)
    · rw [mainStep_of_latch h]
    · rw [mainStep_of_clear h]
    · rw [mainStep_of_write h]
    · rw [mainStep_of_restart h]

/-! ### Sub-operations that run alone (R160, R161, R164, R165) -/

theorem exec_cycleRestart_next {s t : State} :
    exec .cycleRestart s = .next t ↔ s.cfg.Valid ∧ cycleRestart s = t := by
  rw [exec, execCycleRestart, configured_next, Host.Outcome.next.injEq]

theorem cycleRestart_cfg (s : State) : (cycleRestart s).cfg = s.cfg := rfl

theorem cycleRestart_idem (s : State) : cycleRestart (cycleRestart s) = cycleRestart s := by
  simp only [cycleRestart_eq]

/-- Settles O37: the values written depend on the configuration alone, so writing them again changes
nothing. -/
theorem cycleRestartEffect : Obligations.CycleRestartEffect := by
  refine ⟨fun s hv => exec_cycleRestart_next.mpr ⟨hv, cycleRestart_eq s⟩, fun s t h => ?_,
    identifies_of_decodeSub rfl⟩
  obtain ⟨hv, rfl⟩ := exec_cycleRestart_next.mp h
  exact exec_cycleRestart_next.mpr ⟨cycleRestart_cfg s ▸ hv, cycleRestart_idem s⟩

/-- The combined count, as R161 writes it. -/
theorem freqCombine_eq (s : State) : freqCombine s = s.ovfTally * 2 ^ s.cfg.w1 + s.pa.cnt := rfl

/-- Settles O38: a count below `2^W1` is the remainder by it, and the tally the quotient. -/
theorem freqCombineIsExact : Obligations.FreqCombineIsExact := by
  refine ⟨fun _ hv => configured_of_valid hv, fun _ hs => freqCombine_lt hs, fun s hs => ?_⟩
  rw [freqCombine_eq, Nat.mul_comm]
  constructor
  · rw [Nat.mul_add_div (Nat.two_pow_pos _), Nat.div_eq_of_lt hs.paCnt, Nat.add_zero]
  · rw [Nat.mul_add_mod, Nat.mod_eq_of_lt hs.paCnt]

/-- Settles O41: each operation is one event appended, and the codes are those of R84. -/
theorem displayOperations : Obligations.DisplayOperations :=
  ⟨fun _ hv => configured_of_valid hv, fun _ hv => configured_of_valid hv,
    identifies_of_decodeSub rfl, identifies_of_decodeSub rfl⟩

/-! ### The decimal text of a count (R162) -/

/-- The number a text denotes, read from its most significant byte. -/
def textValue (t : List Byte) : Nat := t.foldl (fun acc b => 10 * acc + (b.toNat - 0x30)) 0

theorem digitByte_value {d : Nat} (h : d < 10) : (digitByte d).toNat - 0x30 = d := by
  have e : (digitByte d).toNat = 0x30 + d := Nat.mod_eq_of_lt (by omega)
  omega

/-- A text denotes the number whose digits, least significant first, it shows in reverse. -/
theorem textValue_digits {l : List Nat} (h : ∀ d ∈ l, d < 10) :
    textValue (l.reverse.map digitByte) = Nat.ofDigits 10 l := by
  induction l with
  | nil => rfl
  | cons d l ih =>
    obtain ⟨hd, hl⟩ := List.forall_mem_cons.mp h
    have hrest := ih hl
    rw [textValue] at hrest ⊢
    rw [List.reverse_cons, List.map_append, List.foldl_append, hrest, Nat.ofDigits_cons,
      List.map_singleton, List.foldl_cons, List.foldl_nil, digitByte_value hd]
    exact Nat.add_comm _ _

theorem textValue_decFormat (n : Nat) : textValue (decFormat n) = n := by
  by_cases h : n = 0
  · rw [h]
    rfl
  · rw [decFormat_of_ne_zero h, textValue_digits fun d hd => Nat.digits_lt_base (by decide) hd,
      Nat.ofDigits_digits]

/-- The first byte is the most significant digit, which is not 0. -/
theorem head?_decFormat {n : Nat} (h : n ≠ 0) : (decFormat n).head? ≠ some 0x30 := by
  have hnil : Nat.digits 10 n ≠ [] := Nat.digits_ne_nil_iff_ne_zero.mpr h
  rw [decFormat_of_ne_zero h, List.head?_map, List.head?_reverse,
    List.getLast?_eq_some_getLast hnil]
  intro hzero
  have hbyte : digitByte ((Nat.digits 10 n).getLast hnil) = 0x30 := Option.some.inj hzero
  have hvalue := digitByte_value (Nat.digits_lt_base (by decide) (List.getLast_mem hnil))
  rw [hbyte] at hvalue
  exact Nat.getLast_digit_ne_zero 10 h hvalue.symm

/-- Settles O39: the bytes are the digits of the number in base 10. -/
theorem decimalTextIsCorrect : Obligations.DecimalTextIsCorrect := by
  refine fun n => ⟨textValue_decFormat n, fun b hb => ?_, fun h => ?_, head?_decFormat,
    fun c h => ?_⟩
  · obtain ⟨d, hd, rfl⟩ := mem_decFormat hb
    exact digitByte_bounds hd
  · rw [h]
    rfl
  · obtain ⟨hmin, hmax, -⟩ := legalText_decFormat h
    exact ⟨hmin, hmax⟩

/-! ### The report that ends a cycle (R166, R167)

What a step within a cycle can do to the Pulse Accumulator and the controller is said once, by
`CycleStep`. From it follow the account of the pulses counted and the shape of the report. -/

/-- The Pulse Accumulator as a cycle keeps it, stopped or not: it selects `EXT`, its interrupt is
enabled, and the count and the tally are in range. -/
structure State.Accumulating (s : State) : Prop where
  external : s.pa.cs = .ext
  listens : s.pa.ovie = true
  cnt : s.pa.cnt < 2 ^ s.cfg.w1
  tally : s.ovfTally < 2 ^ s.cfg.w2

/-- Everything a step within a cycle can do, as the Pulse Accumulator and the controller see it. -/
inductive CycleStep (s : State) : TraceStep → State → Prop
  /-- `PULSE` while the Pulse Accumulator is enabled. -/
  | count (gt : CountUnit) (hen : s.pa.en = true) :
      CycleStep s .pulse { s with pa := s.pa.count s.cfg.w1, gt := gt }
  /-- `SVC_PA`. -/
  | service (hovf : s.pa.ovf = true) : CycleStep s .svcPa (svcPaStep s)
  /-- `SVC_GT` that closes the gate. -/
  | close : CycleStep s .svcGt (gsStepLastInterval (s.setGt { s.gt with ovf := false }))
  /-- A step that only times the gate: `CLK`, any other `SVC_GT`, a `PULSE` that is not counted. -/
  | timing {st : TraceStep} (gt : CountUnit) (preCnt gsRemain : Nat) (gsState : GsState)
      (hpulse : st = .pulse → s.pa.en = false) :
      CycleStep s st { s with gt := gt, preCnt := preCnt, gsRemain := gsRemain, gsState := gsState }
  /-- `MAIN` before the restart. -/
  | control (hen : mainEnabled s = true) (hc : s.cState ≠ .restart) :
      CycleStep s .main (mainStep s)

theorem cycleStep_clk {s : State} (hext : s.pa.cs = .ext) : CycleStep s .clk (clkStep s) := by
  cases htick : atTick s with
  | true =>
    have hpa : s.pa.clocked .int s.cfg.w1 = s.pa := by simp [CountUnit.clocked, hext]
    rw [clkStep_tick htick, hpa]
    exact .timing _ _ _ _ nofun
  | false =>
    rw [clkStep_no_tick htick]
    exact .timing _ _ _ _ nofun

theorem cycleStep_pulse {s : State} (hext : s.pa.cs = .ext) :
    CycleStep s .pulse (pulseStep s) := by
  rw [pulseStep_eq]
  cases hen : s.pa.en with
  | true =>
    have hpa : s.pa.clocked .ext s.cfg.w1 = s.pa.count s.cfg.w1 := if_pos ⟨hen, hext⟩
    rw [hpa]
    exact .count _ hen
  | false =>
    rw [CountUnit.clocked_of_disabled hen]
    exact .timing _ _ _ _ fun _ => hen

theorem cycleStep_svcGt (s : State) : CycleStep s .svcGt (svcGtStep s) := by
  obtain ⟨-, e⟩ | ⟨-, e⟩ | ⟨-, e⟩ := svcGtStep_cases s <;> rw [e]
  · obtain ⟨-, e'⟩ | ⟨-, e'⟩ := gsStepCounting_cases (s.setGt { s.gt with ovf := false })
    all_goals
      rw [e']
      exact .timing _ _ _ _ nofun
  · exact .close
  · exact .timing _ _ _ _ nofun

theorem take_cycleStep {st : TraceStep} {s t : State} (h : s.Accumulating) (ht : take st s = some t)
    (hreset : st ≠ .reset) (hrestart : st = .main → s.cState ≠ .restart) : CycleStep s st t := by
  rw [take_some] at ht
  cases st with
  | clk =>
    obtain ⟨-, rfl⟩ := exec_clk_next.mp ht
    exact cycleStep_clk h.external
  | pulse =>
    obtain ⟨-, rfl⟩ := exec_pulse_next.mp ht
    exact cycleStep_pulse h.external
  | svcPa =>
    obtain ⟨-, hen, rfl⟩ := exec_svcPa_next.mp ht
    exact .service ((svcPaEnabled_iff s).mp hen).1
  | svcGt =>
    obtain ⟨-, -, rfl⟩ := exec_svcGt_next.mp ht
    exact cycleStep_svcGt s
  | main =>
    obtain ⟨-, hen, rfl⟩ := exec_main_next.mp ht
    exact .control hen (hrestart rfl)
  | reset => exact absurd rfl hreset

theorem CycleStart.accumulating {s : State} (h : CycleStart s) : s.Accumulating := by
  refine ⟨by rw [h.pa], by rw [h.pa], ?_, ?_⟩
  · rw [h.pa]
    exact Nat.two_pow_pos _
  · rw [h.ovfTally]
    exact Nat.two_pow_pos _

theorem CycleStep.accumulating {s t : State} {st : TraceStep} (hstep : CycleStep s st t)
    (h : s.Accumulating) : t.Accumulating := by
  cases hstep with
  | count =>
    obtain ⟨-, hcs, hovie⟩ := CountUnit.count_controls s.cfg.w1 s.pa
    exact ⟨hcs.trans h.external, hovie.trans h.listens, CountUnit.count_cnt_lt h.cnt, h.tally⟩
  | service => exact ⟨h.external, h.listens, h.cnt, addMod_lt _ _ _⟩
  | close | timing => exact ⟨h.external, h.listens, h.cnt, h.tally⟩
  | control _ hc =>
    obtain ⟨_, _, _, _, e, -⟩ := mainStep_ownership hc
    rw [e]
    exact ⟨h.external, h.listens, h.cnt, h.tally⟩

/-! #### The account of the pulses (R113) -/

/-- The pulses counted since the restart, as far as the registers tell: the tally and the count, and
a pending wrap not yet in the tally. -/
def State.pulseTotal (s : State) : Nat :=
  (s.ovfTally + s.pa.ovf.toNat) * 2 ^ s.cfg.w1 + s.pa.cnt

/-- With no wrap pending, the total is what `FREQ_COMBINE` gives. -/
theorem State.pulseTotal_of_no_event {s : State} (h : s.pa.ovf = false) :
    s.pulseTotal = freqCombine s := by
  rw [pulseTotal, h, freqCombine_eq, Bool.toNat_false, Nat.add_zero]

/-- A latch, which waits for the pending wrap to be serviced, takes the whole total. -/
theorem State.Accumulating.latch {s : State} (h : s.Accumulating) (hen : mainEnabled s = true) :
    freqCombine s = s.pulseTotal % 2 ^ s.cfg.wf := by
  obtain ⟨hquiet, -⟩ := (mainEnabled_iff s).mp hen
  have hevent : s.pa.ovf = false :=
    Bool.eq_false_of_not_eq_true fun hovf => hquiet ⟨hovf, h.listens⟩
  rw [pulseTotal_of_no_event hevent]
  exact (Nat.mod_eq_of_lt (concatBits_lt h.tally h.cnt)).symm

/-- A count adds one, whether it wraps or not, if no wrap is lost. -/
theorem pulseTotal_count {s : State} (gt : CountUnit)
    (hkept : s.pa.cnt = 2 ^ s.cfg.w1 - 1 → s.pa.ovf = false) :
    State.pulseTotal { s with pa := s.pa.count s.cfg.w1, gt := gt } = s.pulseTotal + 1 := by
  by_cases hwrap : s.pa.cnt = 2 ^ s.cfg.w1 - 1
  · have hmax : s.pa.cnt + 1 = 2 ^ s.cfg.w1 := by
      have hpos := Nat.two_pow_pos s.cfg.w1
      omega
    simp only [State.pulseTotal, CountUnit.count_of_wrap hwrap, hkept hwrap, Bool.toNat_true,
      Bool.toNat_false, Nat.add_assoc, hmax]
    ring
  · simp only [State.pulseTotal, CountUnit.count_of_no_wrap hwrap, Nat.add_assoc]

/-- `SVC_PA` carries the pending wrap into the tally, which loses a multiple of `2^WF` at most. -/
theorem pulseTotal_svcPaStep {s : State} (hovf : s.pa.ovf = true) :
    (svcPaStep s).pulseTotal ≡ s.pulseTotal [MOD 2 ^ s.cfg.wf] := by
  have htally : addMod s.cfg.w2 s.ovfTally 1 ≡ s.ovfTally + 1 [MOD 2 ^ s.cfg.w2] :=
    Nat.mod_modEq _ _
  have hhigh := (htally.mul_right' (2 ^ s.cfg.w1)).add_right s.pa.cnt
  rw [← Nat.pow_add, Nat.add_comm s.cfg.w2, ← Config.wf] at hhigh
  simpa only [svcPaStep_eq, State.pulseTotal, hovf, Bool.toNat_true, Bool.toNat_false,
    Nat.add_zero] using hhigh

/-- Every step accounts for the pulses it counts, if it loses no wrap. -/
theorem CycleStep.pulseTotal {s t : State} {st : TraceStep} (hstep : CycleStep s st t)
    (h : s.Accumulating) (hlost : wraps .pa st s = true → s.pa.ovf = false) :
    t.pulseTotal ≡ s.pulseTotal + (if st = .pulse ∧ s.pa.en = true then 1 else 0)
      [MOD 2 ^ s.cfg.wf] := by
  cases hstep with
  | count gt hen =>
    rw [if_pos ⟨rfl, hen⟩, pulseTotal_count gt fun hmax => hlost ?_]
    simp [wraps, hen, hmax, h.external]
  | service hovf => exact pulseTotal_svcPaStep hovf
  | close => exact Nat.ModEq.refl _
  | timing _ _ _ _ hpulse =>
    rw [if_neg fun ⟨hst, hen⟩ => absurd ((hpulse hst).symm.trans hen) Bool.false_ne_true]
    exact Nat.ModEq.refl _
  | control _ hc =>
    obtain ⟨_, _, _, _, e, -⟩ := mainStep_ownership hc
    rw [e]
    exact Nat.ModEq.refl _

/-! #### The shape of the report (R166) -/

/-- What a cycle has sent to the display when its controller is in `c` and it has counted `n`
pulses. -/
def sentReport (cfg : Config) (n : Nat) : CState → List DispEvent
  | .boot | .poll | .latch | .clear => []
  | .write => [.clear cfg.displayLine]
  | .restart => [.clear cfg.displayLine, .write (decFormat (n % 2 ^ cfg.wf))]

/-- A cycle that began with the log `log`: the Pulse Accumulator runs at most until the flag is set,
the latched count stays what was counted, and the log has grown by the report so far. -/
structure State.Reporting (log : List DispEvent) (s : State) : Prop where
  booted : s.cState ≠ .boot
  running : s.pa.en = true → s.cState = .poll ∧ s.dataReady = false
  latched : s.cState = .clear ∨ s.cState = .write → s.freq = s.pulseTotal % 2 ^ s.cfg.wf
  sent : s.dispLog = log ++ sentReport s.cfg s.pulseTotal s.cState

theorem CycleStart.reporting {s : State} (h : CycleStart s) : s.Reporting s.dispLog := by
  have hc := h.cState
  exact ⟨by simp [hc], fun _ => ⟨hc, h.dataReady⟩, by simp [hc], by simp [hc, sentReport]⟩

/-- The Pulse Accumulator is stopped once the controller has left `C_POLL`. -/
theorem State.Reporting.stopped {log : List DispEvent} {s : State} (h : s.Reporting log)
    (hc : s.cState ≠ .poll) : s.pa.en = false :=
  Bool.eq_false_of_not_eq_true fun hen => hc (h.running hen).1

/-- A step of hardware or of a service leaves the report alone: while the gate is open nothing
depends on the total yet, and once it is closed the total stays. -/
theorem State.Reporting.of_environment {log : List DispEvent} {s t : State} (h : s.Reporting log)
    (hcfg : t.cfg = s.cfg) (hc : t.cState = s.cState) (hfreq : t.freq = s.freq)
    (hlog : t.dispLog = s.dispLog)
    (hen : t.pa.en = true → s.pa.en = true ∧ t.dataReady = s.dataReady)
    (htotal : s.pa.en = false → t.pulseTotal ≡ s.pulseTotal [MOD 2 ^ s.cfg.wf]) :
    t.Reporting log := by
  have hrunning : t.pa.en = true → t.cState = .poll ∧ t.dataReady = false := fun ht => by
    obtain ⟨hs, hready⟩ := hen ht
    rw [hc, hready]
    exact h.running hs
  have hmod (hne : s.cState ≠ .poll) :
      t.pulseTotal % 2 ^ s.cfg.wf = s.pulseTotal % 2 ^ s.cfg.wf :=
    htotal (h.stopped hne)
  refine ⟨hc ▸ h.booted, hrunning, fun hlatched => ?_, ?_⟩
  · rw [hc] at hlatched
    have hne : s.cState ≠ .poll := fun hpoll => by simp [hpoll] at hlatched
    rw [hfreq, hcfg, h.latched hlatched, hmod hne]
  · rw [hlog, h.sent, hc, hcfg]
    cases hs : s.cState with
    | boot | poll | latch | clear | write => rfl
    | restart => simp only [sentReport, hmod (by simp [hs])]

/-- `MAIN` carries the report on by its own part. -/
theorem State.Reporting.mainStep {log : List DispEvent} {s : State} (h : s.Reporting log)
    (hacc : s.Accumulating) (hen : mainEnabled s = true) (hc : s.cState ≠ .restart) :
    (mainStep s).Reporting log := by
  have ⟨hbooted, hrunning, hlatched, hsent⟩ := h
  cases hs : s.cState with
  | boot => exact absurd hs hbooted
  | restart => exact absurd hs hc
  | poll =>
    by_cases hready : s.dataReady = true
    · rw [mainStep_of_poll_ready hs hready]
      refine ⟨nofun, fun hrun => ?_, nofun, ?_⟩
      · exact absurd ((hrunning hrun).2.symm.trans hready) Bool.false_ne_true
      · rwa [hs] at hsent
    · rw [mainStep_of_poll_clear hs hready]
      exact ⟨hbooted, hrunning, hlatched, hsent⟩
  | latch =>
    rw [mainStep_of_latch hs]
    refine ⟨nofun, fun hrun => ?_, fun _ => hacc.latch hen, ?_⟩
    · exact absurd (hrunning hrun).1 (by simp [hs])
    · rwa [hs] at hsent
  | clear =>
    rw [mainStep_of_clear hs]
    refine ⟨nofun, fun hrun => ?_, fun _ => hlatched (.inl hs), ?_⟩
    · exact absurd (hrunning hrun).1 (by simp [hs])
    · show s.dispLog ++ _ = log ++ [.clear s.cfg.displayLine]
      rw [hsent, hs, sentReport, List.append_nil]
  | write =>
    rw [mainStep_of_write hs]
    refine ⟨nofun, fun hrun => ?_, nofun, ?_⟩
    · exact absurd (hrunning hrun).1 (by simp [hs])
    · show s.dispLog ++ _ = log ++ [.clear s.cfg.displayLine, .write (decFormat (s.pulseTotal % _))]
      rw [hsent, hs, sentReport, hlatched (.inr hs), List.append_assoc, List.singleton_append]

/-- Every step of the cycle carries the report on. -/
theorem CycleStep.reporting {log : List DispEvent} {s t : State} {st : TraceStep}
    (hstep : CycleStep s st t) (h : s.Reporting log) (hacc : s.Accumulating)
    (hlost : wraps .pa st s = true → s.pa.ovf = false) : t.Reporting log := by
  have htotal (hen : s.pa.en = false) : t.pulseTotal ≡ s.pulseTotal [MOD 2 ^ s.cfg.wf] := by
    simpa [hen] using hstep.pulseTotal hacc hlost
  cases hstep with
  | count _ hen => exact h.of_environment rfl rfl rfl rfl (fun _ => ⟨hen, rfl⟩) htotal
  | service | timing => exact h.of_environment rfl rfl rfl rfl (fun hen => ⟨hen, rfl⟩) htotal
  | close => exact h.of_environment rfl rfl rfl rfl nofun htotal
  | control hen hc => exact h.mainStep hacc hen hc

/-! #### Executions within a cycle -/

theorem pulsesCounted_cons {st : TraceStep} {rest : List TraceStep} {s t : State}
    (ht : take st s = some t) : pulsesCounted (st :: rest) s =
      (if st = .pulse ∧ s.pa.en = true then 1 else 0) + pulsesCounted rest t := by
  simp [pulsesCounted, ht]

/-- The induction over the steps of the cycle. -/
theorem runSteps_reporting {log : List DispEvent} {steps : List TraceStep} {s t : State}
    (h : s.Reporting log) (hacc : s.Accumulating) (hcycle : withinCycle steps s = true)
    (hlost : noLostOverflow .pa steps s = true) (ht : runSteps steps s = some t) :
    t.Reporting log ∧ t.cfg = s.cfg ∧
      t.pulseTotal ≡ s.pulseTotal + pulsesCounted steps s [MOD 2 ^ s.cfg.wf] := by
  induction steps generalizing s with
  | nil =>
    cases ht
    exact ⟨h, rfl, Nat.ModEq.refl _⟩
  | cons st rest ih =>
    obtain ⟨u, hu, ht⟩ := runSteps_cons.mp ht
    obtain ⟨hreset, hrestart, hcycle⟩ := (withinCycle_cons hu).mp hcycle
    obtain ⟨hkept, hlost⟩ := (noLostOverflow_cons hu .pa).mp hlost
    have hstep := take_cycleStep hacc hu hreset hrestart
    have hcfg : u.cfg = s.cfg := exec_next_cfg (take_some.mp hu)
    obtain ⟨hreport, hcfg', htotal⟩ :=
      ih (hstep.reporting h hacc hkept) (hstep.accumulating hacc) hcycle hlost ht
    refine ⟨hreport, hcfg'.trans hcfg, ?_⟩
    rw [hcfg] at htotal
    rw [pulsesCounted_cons hu, ← Nat.add_assoc]
    exact htotal.trans ((hstep.pulseTotal hacc hkept).add_right _)

/-- Settles O53: the total starts at 0 and every step accounts for the pulses it counts, and the
report that has been sent by the restart shows the total. -/
theorem eachCycleReportsItsPulseCount : Obligations.EachCycleReportsItsPulseCount := by
  intro s t steps _ hs hcycle hlost ht hrestart
  obtain ⟨hreport, hcfg, htotal⟩ :=
    runSteps_reporting hs.reporting hs.accumulating hcycle hlost ht
  have hzero : s.pulseTotal = 0 := by simp [State.pulseTotal, hs.pa, hs.ovfTally]
  have hcount : t.pulseTotal % 2 ^ s.cfg.wf = pulsesCounted steps s % 2 ^ s.cfg.wf := by
    rwa [hzero, Nat.zero_add] at htotal
  rw [hreport.sent, hrestart, hcfg, sentReport, hcount]

end Sys2Proof.Machine
end

-- The exceptions family (60_exceptions.md R204 to R210): when each step is enabled, the two services
-- in either order, the eager schedule as an execution and as a measurement, and fair executions.
section
namespace Sys2Proof.Machine

/-! ### Enabled steps (R204, R206) -/

/-- Settles O12: the three environment steps always answer, the others by their enabling
conditions. -/
theorem stepsEnabledExactlyWhen : Obligations.StepsEnabledExactlyWhen := by
  intro s hv
  refine ⟨⟨_, exec_clk_next.mpr ⟨hv, rfl⟩⟩, ⟨_, exec_pulse_next.mpr ⟨hv, rfl⟩⟩,
    ⟨_, exec_reset_next.mpr ⟨hv, rfl⟩⟩,
    fun h => ⟨_, exec_svcPa_next.mpr ⟨hv, (svcPaEnabled_iff s).mpr h, rfl⟩⟩,
    fun h => exec_svcPa_of_not_enabled hv (mt (svcPaEnabled_iff s).mp h),
    fun h => ⟨_, exec_svcGt_next.mpr ⟨hv, (svcGtEnabled_iff s).mpr h, rfl⟩⟩,
    fun h => exec_svcGt_of_not_enabled hv (mt (svcGtEnabled_iff s).mp h),
    fun h => ⟨_, exec_main_next.mpr ⟨hv, (mainEnabled_iff s).mpr h, rfl⟩⟩,
    fun h => exec_main_of_not_enabled hv ?_⟩
  rwa [ne_eq, mainEnabled_iff, ← not_or, not_not]

/-! ### The two services together (R207) -/

/-- `SVC_PA` writes no field that `SVC_GT` reads. -/
theorem svcGtEnabled_svcPaStep (s : State) : svcGtEnabled (svcPaStep s) = svcGtEnabled s := rfl

/-- `SVC_GT` writes no field that enables `SVC_PA`. -/
theorem svcPaEnabled_svcGtStep (s : State) : svcPaEnabled (svcGtStep s) = svcPaEnabled s := by
  obtain ⟨_, _, _, _, _, _, e, -⟩ := svcGtStep_ownership s
  rw [e]
  rfl

theorem gsStep_svcPaStep (s : State) : gsStep (svcPaStep s) = svcPaStep (gsStep s) := by
  unfold gsStep
  rw [show (svcPaStep s).gsState = s.gsState from rfl]
  cases s.gsState with
  | counting =>
    show gsStepCounting (svcPaStep s) = svcPaStep (gsStepCounting s)
    rw [gsStepCounting, gsStepCounting, apply_ite svcPaStep]
    rfl
  | lastInterval | complete => rfl

/-- The two services write disjoint fields, and neither reads what the other writes. -/
theorem svcGtStep_svcPaStep (s : State) : svcGtStep (svcPaStep s) = svcPaStep (svcGtStep s) :=
  gsStep_svcPaStep (s.setGt s.gt.acknowledged)

theorem take_svcPa {s : State} (hv : s.cfg.Valid) (hen : svcPaEnabled s = true) :
    take .svcPa s = some (svcPaStep s) :=
  take_some.mpr (exec_svcPa_next.mpr ⟨hv, hen, rfl⟩)

theorem take_svcGt {s : State} (hv : s.cfg.Valid) (hen : svcGtEnabled s = true) :
    take .svcGt s = some (svcGtStep s) :=
  take_some.mpr (exec_svcGt_next.mpr ⟨hv, hen, rfl⟩)

/-- Settles O47: each service leaves the other enabled, and their effects commute. -/
theorem servicesCommute : Obligations.ServicesCommute := by
  intro s hv hpa hgt
  have hpa' : svcPaEnabled (svcGtStep s) = true := (svcPaEnabled_svcGtStep s).trans hpa
  have hv' : (svcGtStep s).cfg.Valid := (svcGtStep_cfg s).symm ▸ hv
  refine ⟨svcGtStep (svcPaStep s), ?_, ?_⟩
  · exact runSteps_cons.mpr ⟨_, take_svcPa hv hpa,
      runSteps_cons.mpr ⟨_, take_svcGt (s := svcPaStep s) hv hgt, rfl⟩⟩
  · rw [svcGtStep_svcPaStep]
    exact runSteps_cons.mpr ⟨_, take_svcGt hv hgt,
      runSteps_cons.mpr ⟨_, take_svcPa hv' hpa', rfl⟩⟩

/-! ### The first loop of the eager schedule (R209) -/

theorem mainEnabled_iff_quiet (s : State) :
    mainEnabled s = true ↔ svcPaEnabled s = false ∧ svcGtEnabled s = false := by
  simp [mainEnabled]

/-- With no Gate Timer event serviceable, a round is `SVC_PA` alone. -/
theorem serviceRound_of_gate_quiet {s : State} (h : svcGtEnabled s = false) :
    serviceRound s = if svcPaEnabled s = true then svcPaStep s else s := by
  unfold serviceRound
  split <;> simp [svcGtEnabled_svcPaStep, h]

/-- With no Pulse Accumulator event serviceable, a round is `SVC_GT` alone. -/
theorem serviceRound_of_pulse_quiet {s : State} (h : svcPaEnabled s = false) :
    serviceRound s = if svcGtEnabled s = true then svcGtStep s else s := by
  simp [serviceRound, h]

/-- With a Pulse Accumulator event serviceable, a round goes on from `SVC_PA`. -/
theorem serviceRound_of_pulse_event {s : State} (h : svcPaEnabled s = true) :
    serviceRound s = serviceRound (svcPaStep s) := by
  rw [serviceRound_of_pulse_quiet (svcPaEnabled_svcPaStep s)]
  simp [serviceRound, h]

/-- One round of services leaves nothing serviceable. -/
theorem mainEnabled_serviceRound (s : State) : mainEnabled (serviceRound s) = true := by
  have hgate {t : State} (ht : svcPaEnabled t = false) : mainEnabled (serviceRound t) = true := by
    rw [serviceRound_of_pulse_quiet ht, mainEnabled_iff_quiet]
    split
    case isTrue => exact ⟨(svcPaEnabled_svcGtStep t).trans ht, svcGtEnabled_svcGtStep t⟩
    case isFalse hgt => exact ⟨ht, Bool.eq_false_of_not_eq_true hgt⟩
  by_cases hpa : svcPaEnabled s = true
  · rw [serviceRound_of_pulse_event hpa]
    exact hgate (svcPaEnabled_svcPaStep s)
  · exact hgate (Bool.eq_false_of_not_eq_true hpa)

/-- So the first loop is one round. -/
theorem serviceLoop_two (s : State) : serviceLoop 2 s = serviceRound s := by
  obtain ⟨hpa, hgt⟩ := (mainEnabled_iff_quiet _).mp (mainEnabled_serviceRound s)
  by_cases h : svcPaEnabled s = true ∨ svcGtEnabled s = true
  · simp [serviceLoop, h, hpa, hgt]
  · simp only [not_or, Bool.not_eq_true] at h
    simp [serviceLoop, serviceRound, h]

theorem runSteps_append {l l' : List TraceStep} {s t u : State} (h : runSteps l s = some t)
    (h' : runSteps l' t = some u) : runSteps (l ++ l') s = some u := by
  induction l generalizing s with
  | nil => cases h; exact h'
  | cons st rest ih =>
    obtain ⟨v, hv, hrest⟩ := runSteps_cons.mp h
    exact runSteps_cons.mpr ⟨v, hv, ih hrest⟩

theorem runSteps_cfg {steps : List TraceStep} {s t : State} (h : runSteps steps s = some t) :
    t.cfg = s.cfg := by
  induction steps generalizing s with
  | nil => cases h; rfl
  | cons st rest ih =>
    obtain ⟨u, hu, hrest⟩ := runSteps_cons.mp h
    exact (ih hrest).trans (exec_next_cfg (take_some.mp hu))

/-- A round of services is an execution. -/
theorem runSteps_serviceRound {s : State} (hv : s.cfg.Valid) : ∃ steps,
    runSteps steps s = some (serviceRound s) ∧ ∀ st ∈ steps, st = .svcPa ∨ st = .svcGt := by
  have hgate {t : State} (hv : t.cfg.Valid) (ht : svcPaEnabled t = false) : ∃ steps,
      runSteps steps t = some (serviceRound t) ∧ ∀ st ∈ steps, st = .svcGt := by
    rw [serviceRound_of_pulse_quiet ht]
    split
    case isTrue hgt => exact ⟨[.svcGt], runSteps_cons.mpr ⟨_, take_svcGt hv hgt, rfl⟩, by simp⟩
    case isFalse => exact ⟨[], rfl, nofun⟩
  by_cases hpa : svcPaEnabled s = true
  · obtain ⟨steps, hrun, hsteps⟩ := hgate (t := svcPaStep s) hv (svcPaEnabled_svcPaStep s)
    rw [serviceRound_of_pulse_event hpa]
    refine ⟨.svcPa :: steps, runSteps_cons.mpr ⟨_, take_svcPa hv hpa, hrun⟩, ?_⟩
    exact List.forall_mem_cons.mpr ⟨.inl rfl, fun st hst => .inr (hsteps st hst)⟩
  · obtain ⟨steps, hrun, hsteps⟩ := hgate hv (Bool.eq_false_of_not_eq_true hpa)
    exact ⟨steps, hrun, fun st hst => .inr (hsteps st hst)⟩

/-! ### The second loop of the eager schedule (R209) -/

/-- `MAIN` steps left until the controller polls with the flag clear. -/
def State.walkLeft (s : State) : Nat :=
  match s.cState with
  | .boot => 2
  | .poll => if s.dataReady = true then 5 else 0
  | .latch => 4
  | .clear => 3
  | .write => 2
  | .restart => 1

theorem State.walkLeft_eq_zero_iff (s : State) :
    s.walkLeft = 0 ↔ s.cState = .poll ∧ s.dataReady = false := by
  unfold walkLeft
  cases s.cState <;> simp

theorem State.walkLeft_le (s : State) : s.walkLeft ≤ 5 := by
  unfold walkLeft
  split
  case h_2 => split <;> decide
  all_goals decide

/-- Each `MAIN` step is one of those left. -/
theorem walkLeft_mainStep {s : State} (h : s.walkLeft ≠ 0) :
    (mainStep s).walkLeft + 1 = s.walkLeft := by
  cases hc : s.cState with
  | boot => simp [State.walkLeft, mainStep_of_boot hc, hc]
  | poll =>
    have hready : s.dataReady = true :=
      Bool.eq_true_of_not_eq_false fun hclear => h (s.walkLeft_eq_zero_iff.mpr ⟨hc, hclear⟩)
    simp [State.walkLeft, mainStep_of_poll_ready hc hready, hc, hready]
  | latch => simp [State.walkLeft, mainStep_of_latch hc, hc]
  | clear => simp [State.walkLeft, mainStep_of_clear hc, hc]
  | write => simp [State.walkLeft, mainStep_of_write hc, hc]
  | restart => simp [State.walkLeft, mainStep_of_restart hc, cycleRestart_eq, hc]

/-- Given enough steps, the second loop takes exactly those left, and none is left then. -/
theorem controllerLoop_eq_iterate {n : Nat} {s : State} (h : s.walkLeft ≤ n) :
    controllerLoop n s = mainStep^[s.walkLeft] s ∧ (controllerLoop n s).walkLeft = 0 := by
  induction n generalizing s with
  | zero =>
    have hzero := Nat.le_zero.mp h
    exact ⟨by rw [hzero]; rfl, hzero⟩
  | succ n ih =>
    have hcond : s.cState ≠ .poll ∨ s.dataReady = true ↔ s.walkLeft ≠ 0 := by
      rw [ne_eq s.walkLeft, s.walkLeft_eq_zero_iff]
      cases s.dataReady <;> simp
    by_cases hzero : s.walkLeft = 0
    · rw [controllerLoop, if_neg (mt hcond.mp (not_not.mpr hzero))]
      exact ⟨by rw [hzero]; rfl, hzero⟩
    · have hstep := walkLeft_mainStep hzero
      obtain ⟨hiter, hend⟩ := ih (s := mainStep s) (by omega)
      rw [controllerLoop, if_pos (hcond.mpr hzero)]
      refine ⟨?_, hend⟩
      rw [hiter, ← hstep, Function.iterate_succ_apply]

/-- The insertions of the eager schedule: one round of services, then the controller's walk. -/
theorem settle_eq_iterate (s : State) :
    settle s = mainStep^[(serviceRound s).walkLeft] (serviceRound s) := by
  rw [settle, serviceLoop_two]
  exact (controllerLoop_eq_iterate ((serviceRound s).walkLeft_le.trans (by decide))).1

theorem walkLeft_settle (s : State) : (settle s).walkLeft = 0 := by
  rw [settle, serviceLoop_two]
  exact (controllerLoop_eq_iterate ((serviceRound s).walkLeft_le.trans (by decide))).2

/-- Where `MAIN` is enabled it stays so, and may be taken any number of times. -/
theorem runSteps_main {s : State} (hv : s.cfg.Valid) (hen : mainEnabled s = true) (n : Nat) :
    runSteps (List.replicate n .main) s = some (mainStep^[n] s) ∧
      mainEnabled (mainStep^[n] s) = true := by
  induction n generalizing s with
  | zero => exact ⟨rfl, hen⟩
  | succ n ih =>
    obtain ⟨hrun, hen'⟩ := ih (mainStep_cfg s ▸ hv) (mainEnabled_mainStep hen)
    exact ⟨runSteps_cons.mpr ⟨_, take_main hv hen, hrun⟩, hen'⟩

theorem take_envEffect {s : State} (hv : s.cfg.Valid) (e : EnvStep) :
    take e.toStep s = some (envEffect e s) := by
  rw [take_some]
  cases e with
  | clk => exact exec_clk_next.mpr ⟨hv, rfl⟩
  | pulse => exact exec_pulse_next.mpr ⟨hv, rfl⟩
  | reset => exact exec_reset_next.mpr ⟨hv, rfl⟩

/-- Settles O56: the environment step, the services of one round, and the controller's walk, which
has at most five steps. -/
theorem eagerRoundIsAnExecution : Obligations.EagerRoundIsAnExecution := by
  intro e s hv
  have henv := take_envEffect hv e
  have hv' : (envEffect e s).cfg.Valid := exec_next_cfg (take_some.mp henv) ▸ hv
  obtain ⟨services, hservices, hmem⟩ := runSteps_serviceRound hv'
  obtain ⟨hwalk, hquiet⟩ := runSteps_main (runSteps_cfg hservices ▸ hv')
    (mainEnabled_serviceRound (envEffect e s)) (serviceRound (envEffect e s)).walkLeft
  rw [← settle_eq_iterate] at hwalk hquiet
  obtain ⟨hpa, hgt⟩ := (mainEnabled_iff_quiet _).mp hquiet
  obtain ⟨hpoll, hclear⟩ := (State.walkLeft_eq_zero_iff _).mp (walkLeft_settle (envEffect e s))
  have hnone : services.count .main = 0 := List.count_eq_zero.mpr fun hmain => by
    simpa using hmem _ hmain
  refine ⟨services ++ List.replicate _ .main,
    runSteps_cons.mpr ⟨_, henv, runSteps_append hservices hwalk⟩, fun st hst => ?_, ?_,
    hpa, hgt, hpoll, hclear⟩
  · obtain hst | hst := List.mem_append.mp hst
    · exact (hmem st hst).imp_right .inl
    · exact .inr (.inr (List.eq_of_mem_replicate hst))
  · rw [List.count_append, hnone, List.count_replicate_self, Nat.zero_add]
    exact (State.walkLeft_le _).trans (by decide)

end Sys2Proof.Machine
end

section
/-! ### A gate under the eager schedule (R142, R209)

A round of the eager schedule takes at most one `CLK` or `PULSE` step and then services what that
step made pending, so no overflow is lost and every service is punctual. The accounts of the `CLK`
steps left and of the pulses counted, kept by every step of a cycle, are then kept by every round. -/

namespace Sys2Proof.Machine

/-- A position short of one whole overflow period. -/
theorem State.GateRunning.gatePosition_lt {s : State} (h : s.GateRunning) (hovf : s.gt.ovf = false) :
    s.gatePosition < 2 ^ s.cfg.wg * s.cfg.prescale := by
  have hpre := h.preCnt
  calc s.gatePosition = s.gt.cnt * s.cfg.prescale + s.preCnt := by simp [gatePosition, hovf]
    _ < s.gt.cnt * s.cfg.prescale + s.cfg.prescale := by omega
    _ = (s.gt.cnt + 1) * s.cfg.prescale := by ring
    _ ≤ 2 ^ s.cfg.wg * s.cfg.prescale := Nat.mul_le_mul_right _ h.cnt

/-- With no overflow pending, a running gate has `CLK` steps left. -/
theorem State.GateRunning.gateLeft_pos {s : State} (h : s.GateRunning) (hovf : s.gt.ovf = false) :
    0 < s.gateLeft := by
  have hpos := h.gatePosition_lt hovf
  cases hgs : s.gsState with
  | counting =>
    obtain ⟨hremain, -⟩ := h.remain hgs
    have hperiod : 2 ^ s.cfg.wg ≤ s.gsRemain * 2 ^ s.cfg.wg + s.cfg.gateResidualTicks :=
      (Nat.le_mul_of_pos_left _ hremain).trans (Nat.le_add_right _ _)
    rw [gateLeft_of_counting hgs, sub_pos]
    exact_mod_cast hpos.trans_le (Nat.mul_le_mul_right _ hperiod)
  | lastInterval =>
    rw [gateLeft_of_lastInterval hgs, sub_pos]
    exact_mod_cast hpos
  | complete => exact absurd hgs h.notComplete

/-- The gate that began in `s₀` is open: `n` `CLK` steps of it are left, and `k` pulses have been
counted. -/
structure State.GateOpen (s s₀ : State) (n k : Nat) : Prop where
  cfg : s.cfg = s₀.cfg
  running : s.GateRunning
  accumulating : s.Accumulating
  reporting : s.Reporting s₀.dispLog
  counting : s.pa.en = true
  listens : s.gt.ovie = true
  left : s.gateLeft = n
  total : s.pulseTotal ≡ k [MOD 2 ^ s.cfg.wf]

/-- The gate that began in `s₀` has closed with `k` pulses counted, and the controller has not yet
seen the flag. -/
structure State.GateShut (s s₀ : State) (k : Nat) : Prop where
  cfg : s.cfg = s₀.cfg
  accumulating : s.Accumulating
  reporting : s.Reporting s₀.dispLog
  polling : s.cState = .poll
  ready : s.dataReady = true
  total : s.pulseTotal ≡ k [MOD 2 ^ s.cfg.wf]

theorem CycleStart.gateOpen {s : State} (h : CycleStart s) (hv : s.cfg.Valid) :
    s.GateOpen s s.cfg.gateClks 0 := by
  refine ⟨rfl, h.gateRunning hv, h.accumulating, h.reporting, by rw [h.pa], by rw [h.gt],
    h.gateLeft hv, ?_⟩
  simp [State.pulseTotal, h.pa, h.ovfTally, Nat.ModEq]

/-- Nothing is sent while the controller polls. -/
theorem State.Reporting.dispLog_of_poll {log : List DispEvent} {s : State} (h : s.Reporting log)
    (hc : s.cState = .poll) : s.dispLog = log := by
  rw [h.sent, hc, sentReport, List.append_nil]

section
variable {s₀ s t : State} {n k : Nat}

/-- The controller has nothing to do while the gate is open. -/
theorem State.GateOpen.walkLeft_eq_zero (h : s.GateOpen s₀ n k) : s.walkLeft = 0 :=
  s.walkLeft_eq_zero_iff.mpr (h.reporting.running h.counting)

theorem State.GateOpen.dispLog (h : s.GateOpen s₀ n k) : s.dispLog = s₀.dispLog :=
  h.reporting.dispLog_of_poll (h.reporting.running h.counting).1

/-- Both interrupts are enabled in a gate, so with nothing serviceable nothing is pending. -/
theorem State.GateOpen.no_event (h : s.GateOpen s₀ n k) (hquiet : mainEnabled s = true) :
    s.pa.ovf = false ∧ s.gt.ovf = false := by
  obtain ⟨hpa, hgt⟩ := (mainEnabled_iff s).mp hquiet
  exact ⟨Bool.eq_false_of_not_eq_true fun hovf => hpa ⟨hovf, h.accumulating.listens⟩,
    Bool.eq_false_of_not_eq_true fun hovf => hgt ⟨hovf, h.listens⟩⟩

theorem State.GateOpen.left_pos (h : s.GateOpen s₀ n k) (hquiet : mainEnabled s = true) : 0 < n := by
  have hpos := h.running.gateLeft_pos (h.no_event hquiet).2
  rw [h.left] at hpos
  exact_mod_cast hpos

/-- Every step that loses no overflow, is punctual and does not close the gate keeps both
accounts. -/
theorem State.GateOpen.step {st : TraceStep} {l : Lateness}
    (h : s.GateOpen s₀ (n + if st = .clk then 1 else 0) k) (ht : take st s = some t)
    (hmain : st ≠ .main) (hreset : st ≠ .reset) (hpa : wraps .pa st s = true → s.pa.ovf = false)
    (hgt : wraps .gt st s = true → s.gt.ovf = false) (hlate : s.LateBy l)
    (hpunctual : punctual st s l = true) (hopen : t.gsState ≠ .complete) :
    t.GateOpen s₀ n (k + if st = .pulse then 1 else 0) := by
  have hv : s.cfg.Valid := exec_next_valid (take_some.mp ht)
  have hcfg : t.cfg = s.cfg := exec_next_cfg (take_some.mp ht)
  have hgate : GateStep s st t := take_gateStep h.running ht hreset fun e => absurd e hmain
  have hcycle : CycleStep s st t := take_cycleStep h.accumulating ht hreset fun e => absurd e hmain
  have hleft := hgate.gateLeft h.running hv hlate hgt hpunctual
  have htotal := hcycle.pulseTotal h.accumulating hpa
  refine ⟨hcfg.trans h.cfg, (hgate.inCycle h.running hv).resolve_right fun hshut => hopen hshut.2,
    hcycle.accumulating h.accumulating, hcycle.reporting h.reporting h.accumulating hpa,
    ?counting, ?listens, ?left, ?total⟩
  case counting =>
    cases hcycle with
    | count => exact (CountUnit.count_controls s.cfg.w1 s.pa).1.trans h.counting
    | service | timing => exact h.counting
    | close => exact absurd rfl hopen
    | control => exact absurd rfl hmain
  case listens =>
    cases hgate with
    | idle _ _ _ hsame => exact hsame.gt ▸ h.listens
    | phase | tick | wrap | countdown | preload => exact h.listens
    | close _ _ _ hcomplete => exact absurd hcomplete hopen
  case left =>
    rw [h.left] at hleft
    simp only [h.running.enabled, and_true] at hleft
    push_cast at hleft
    exact (add_right_cancel hleft).symm
  case total =>
    rw [hcfg]
    simp only [h.counting, and_true] at htotal
    exact htotal.trans (h.total.add_right _)

/-- `CLK`, `PULSE` and `SVC_PA` do not close the gate. -/
theorem State.GateOpen.step_of_no_gate_event {st : TraceStep}
    (h : s.GateOpen s₀ (n + if st = .clk then 1 else 0) k) (ht : take st s = some t)
    (hst : st = .clk ∨ st = .pulse ∨ st = .svcPa)
    (hpa : wraps .pa st s = true → s.pa.ovf = false) (hovf : s.gt.ovf = false) :
    t.GateOpen s₀ n (k + if st = .pulse then 1 else 0) := by
  have hother : st ≠ .main ∧ st ≠ .reset ∧ st ≠ .svcGt := by
    rcases hst with rfl | rfl | rfl <;> decide
  obtain ⟨hmain, hreset, hsvc⟩ := hother
  refine h.step ht hmain hreset hpa (fun _ => hovf) (.of_no_event hovf ⟨0, 0⟩) ?_ ?_
  · rcases hst with rfl | rfl | rfl <;> rfl
  · obtain hkept | ⟨hgt, -⟩ | ⟨hgt, -⟩ | ⟨-, hr | ⟨hm, -⟩⟩ := gateSequencerTransitions st s t ht
    · exact hkept ▸ h.running.notComplete
    · exact absurd hgt hsvc
    · exact absurd hgt hsvc
    · exact absurd hr hreset
    · exact absurd hm hmain

/-- A service that comes before any event after its overflow keeps both accounts, or closes the gate
with no `CLK` step left. -/
theorem State.GateOpen.svcGt (hv : s₀.cfg.Valid) (h : s.GateOpen s₀ n k)
    (hen : svcGtEnabled s = true) (hlate : s.LateBy ⟨0, 0⟩) :
    (svcGtStep s).GateOpen s₀ n k ∨ n = 0 ∧ (svcGtStep s).GateShut s₀ k := by
  obtain ⟨hovf, -⟩ := (svcGtEnabled_iff s).mp hen
  have ht := take_svcGt (h.cfg ▸ hv) hen
  by_cases hlast : s.gsState = .lastInterval
  · have hcycle := cycleStep_svcGt s
    obtain ⟨_, _, _, _, _, _, e, hclosed, -⟩ := svcGtStep_ownership s
    obtain ⟨-, -, hready⟩ := hclosed hlast
    obtain ⟨hcnt, hpre⟩ := (hlate hovf).2 rfl
    have hnone : s.gateLeft = 0 := by
      simp [State.gateLeft_of_lastInterval hlast, State.gatePosition, hovf, hcnt, hpre]
    have hn : n = 0 := by exact_mod_cast h.left.symm.trans hnone
    refine .inr ⟨hn, (svcGtStep_cfg s).trans h.cfg, hcycle.accumulating h.accumulating,
      hcycle.reporting h.reporting h.accumulating (by simp [wraps]), ?_, ?_, ?_⟩
    · exact (take_cState ht nofun nofun).trans (h.reporting.running h.counting).1
    · rw [e]
      exact hready
    · rw [svcGtStep_cfg]
      exact (hcycle.pulseTotal h.accumulating (by simp [wraps])).trans h.total
  · refine .inl (h.step ht nofun nofun (by simp [wraps]) (by simp [wraps]) hlate ?_ ?_)
    · unfold punctual
      cases s.gsState <;> simp
    · obtain hkept | ⟨-, hnext, -⟩ | ⟨hl, -⟩ := svcGtStep_transitions s
      · exact hkept ▸ h.running.notComplete
      · exact hnext ▸ nofun
      · exact absurd hl hlast

/-- The walk from a closed gate reports what was counted and starts the next gate. -/
theorem State.GateShut.report (h : s.GateShut s₀ k) (hquiet : mainEnabled s = true) :
    CycleStart (mainStep^[5] s) ∧ (mainStep^[5] s).dispLog = s₀.dispLog ++
      [.clear s₀.cfg.displayLine, .write (decFormat (k % 2 ^ s₀.cfg.wf))] := by
  have hcount : freqCombine s = k % 2 ^ s.cfg.wf := (h.accumulating.latch hquiet).trans h.total
  obtain ⟨-, hlog, -⟩ := mainRestart_frame s.reported
  rw [mainStep_iterate_report h.polling h.ready]
  refine ⟨mainRestart_cycleStart _, hlog.trans ?_⟩
  rw [State.reported, hcount, h.reporting.dispLog_of_poll h.polling, h.cfg]

/-- An open gate at the end of a round. -/
structure State.GateSettled (s s₀ : State) (n k : Nat) : Prop
    extends s.GateOpen s₀ n k where
  quiet : mainEnabled s = true

/-- Where services leave the gate open, the round is at its end. -/
theorem State.GateOpen.settle (h : (serviceRound s).GateOpen s₀ n k) :
    (settle s).GateSettled s₀ n k := by
  rw [settle_eq_iterate, h.walkLeft_eq_zero]
  exact ⟨h, mainEnabled_serviceRound s⟩

/-- A round of `PULSE` counts it. -/
theorem State.GateSettled.eagerStep_pulse (hv : s₀.cfg.Valid) (h : s.GateSettled s₀ n k) :
    (eagerStep .pulse s).GateSettled s₀ n (k + 1) := by
  obtain ⟨hpa, hovf⟩ := h.no_event h.quiet
  have hgt : (pulseStep s).gt = s.gt := by
    simp [pulseStep_eq, CountUnit.clocked, h.running.internal]
  have ht := take_envEffect (h.cfg ▸ hv) .pulse
  have hopen : (pulseStep s).GateOpen s₀ n (k + 1) :=
    h.step_of_no_gate_event (st := .pulse) ht (.inr (.inl rfl)) (fun _ => hpa) hovf
  have hidle : svcGtEnabled (pulseStep s) = false := by
    rw [svcGtEnabled, hgt]
    exact ((mainEnabled_iff_quiet s).mp h.quiet).2
  refine State.GateOpen.settle ?_
  rw [envEffect, serviceRound_of_gate_quiet hidle]
  split
  case isTrue hen =>
    exact hopen.step_of_no_gate_event (st := .svcPa) (take_svcPa (hopen.cfg ▸ hv) hen)
      (.inr (.inr rfl)) (by simp [wraps]) (hgt ▸ hovf)
  case isFalse => exact hopen

/-- After one step from a state with no overflow pending, a service is not late. -/
theorem GateStep.lateBy_of_clk (hstep : GateStep s .clk t) (hovf : s.gt.ovf = false) :
    t.LateBy ⟨0, 0⟩ := by
  cases hstep with
  | idle hclk => exact absurd rfl hclk
  | phase | tick => exact fun hset => absurd (hovf.symm.trans hset) Bool.false_ne_true
  | wrap => exact fun _ => ⟨fun _ => rfl, fun _ => ⟨rfl, rfl⟩⟩

theorem clkStep_pa (h : s.pa.cs = .ext) : (clkStep s).pa = s.pa := by
  cases htick : atTick s with
  | true => simp [clkStep_tick htick, CountUnit.clocked, h]
  | false => rw [clkStep_no_tick htick]

/-- A round of `CLK` is one of those left, and the last one closes the gate and reports it. -/
theorem State.GateSettled.eagerStep_clk (hv : s₀.cfg.Valid) (h : s.GateSettled s₀ (n + 1) k) :
    (eagerStep .clk s).GateSettled s₀ n k ∨
      n = 0 ∧ CycleStart (eagerStep .clk s) ∧ (eagerStep .clk s).dispLog = s₀.dispLog ++
        [.clear s₀.cfg.displayLine, .write (decFormat (k % 2 ^ s₀.cfg.wf))] := by
  obtain ⟨hpa, hovf⟩ := h.no_event h.quiet
  have ht := take_envEffect (h.cfg ▸ hv) .clk
  have hopen : (clkStep s).GateOpen s₀ n k :=
    h.step_of_no_gate_event (st := .clk) ht (.inl rfl) (fun _ => hpa) hovf
  have hlate : (clkStep s).LateBy ⟨0, 0⟩ := (gateStep_clk h.running).lateBy_of_clk hovf
  have hidle : svcPaEnabled (clkStep s) = false := by
    rw [svcPaEnabled, clkStep_pa h.accumulating.external]
    exact ((mainEnabled_iff_quiet s).mp h.quiet).1
  have hround : serviceRound (envEffect .clk s) =
      if svcGtEnabled (clkStep s) = true then svcGtStep (clkStep s) else clkStep s :=
    serviceRound_of_pulse_quiet hidle
  by_cases hen : svcGtEnabled (clkStep s) = true
  · rw [if_pos hen] at hround
    obtain hstay | ⟨hn, hshut⟩ := hopen.svcGt hv hen hlate
    · exact .inl (State.GateOpen.settle (hround ▸ hstay))
    · have hquiet := mainEnabled_serviceRound (envEffect .clk s)
      have hwalk : (svcGtStep (clkStep s)).walkLeft = 5 := by
        simp [State.walkLeft, hshut.polling, hshut.ready]
      rw [eagerStep, settle_eq_iterate, hround, hwalk]
      exact .inr ⟨hn, hshut.report (hround ▸ hquiet)⟩
  · rw [if_neg hen] at hround
    exact .inl (State.GateOpen.settle (hround ▸ hopen))

/-- The induction over the rounds before the last `CLK` step. -/
theorem State.GateSettled.eager {env : List EnvStep} (hv : s₀.cfg.Valid)
    (h : s.GateSettled s₀ (n + 1 + env.count .clk) k) (henv : ∀ e ∈ env, e = .clk ∨ e = .pulse) :
    (eager env s).GateSettled s₀ (n + 1) (k + env.count .pulse) := by
  induction env generalizing s k with
  | nil => exact h
  | cons e es ih =>
    obtain ⟨he, hes⟩ := List.forall_mem_cons.mp henv
    obtain rfl | rfl := he
    · rw [List.count_cons_self, ← Nat.add_assoc] at h
      obtain hround | ⟨hzero, -⟩ := h.eagerStep_clk hv
      · exact ih hround hes
      · omega
    · have hround := h.eagerStep_pulse hv
      rw [List.count_cons_self, Nat.add_comm (es.count .pulse), ← Nat.add_assoc]
      exact ih hround hes

end

theorem eager_append (env : List EnvStep) (e : EnvStep) (s : State) :
    eager (env ++ [e]) s = eagerStep e (eager env s) := by
  induction env generalizing s with
  | nil => rfl
  | cons e' es ih => exact ih _

/-- Settles O57: the start of a cycle has `GATE_CLKS` steps left, every round keeps both accounts,
and an open gate with nothing pending has a `CLK` step left, so the last one closes it. -/
theorem eagerScheduleMeasuresFrequency : Obligations.EagerScheduleMeasuresFrequency := by
  intro s env hv hs henv hcount
  have hstart : s.GateSettled s (0 + 1 + env.count .clk) 0 := by
    rw [Nat.add_comm, Nat.zero_add, hcount]
    exact ⟨hs.gateOpen hv, by simp [mainEnabled, svcPaEnabled, svcGtEnabled, hs.pa, hs.gt,
      CountUnit.serviceable]⟩
  have hlast := hstart.eager hv henv
  rw [eager_append]
  refine ⟨hlast.dispLog, ?_⟩
  obtain hopen | ⟨-, hreport⟩ := hlast.eagerStep_clk hv
  · exact absurd (hopen.left_pos hopen.quiet) (Nat.lt_irrefl 0)
  · rwa [Nat.zero_add] at hreport

end Sys2Proof.Machine
end

section
/-! ### Fair executions (R210)

Two facts drive a cycle on. While the units run, `CLK` steps bring the Gate Timer to its overflow,
the event then stays until it is serviced, and each service is one of finitely many. While they are
stopped, `SVC_PA` is the only service left and is taken at most once, so `MAIN` is enabled from then
on and is taken. -/

namespace Sys2Proof.Machine

/-! #### What the steps of one execution do -/

theorem mainStep_dispLog_le (s : State) : s.dispLog.length ≤ (mainStep s).dispLog.length := by
  cases hc : s.cState with
  | boot => rw [mainStep_of_boot hc]
  | poll =>
    by_cases hready : s.dataReady = true
    · rw [mainStep_of_poll_ready hc hready]
    · rw [mainStep_of_poll_clear hc hready]
  | latch => rw [mainStep_of_latch hc]
  | clear =>
    rw [mainStep_of_clear hc, List.length_append]
    exact Nat.le_add_right _ _
  | write =>
    rw [mainStep_of_write hc, List.length_append]
    exact Nat.le_add_right _ _
  | restart =>
    rw [mainStep_of_restart hc]
    exact Nat.le_refl _

/-- Only `RESET` makes the log shorter. -/
theorem take_dispLog_le {st : TraceStep} {s t : State} (ht : take st s = some t)
    (hreset : st ≠ .reset) : s.dispLog.length ≤ t.dispLog.length := by
  rw [take_some] at ht
  cases st with
  | clk =>
    obtain ⟨-, rfl⟩ := exec_clk_next.mp ht
    obtain ⟨_, _, _, e, -⟩ := clkStep_counted s
    rw [e]
  | pulse =>
    obtain ⟨-, rfl⟩ := exec_pulse_next.mp ht
    rw [pulseStep_eq]
  | svcPa =>
    obtain ⟨-, -, rfl⟩ := exec_svcPa_next.mp ht
    exact Nat.le_refl _
  | svcGt =>
    obtain ⟨-, -, rfl⟩ := exec_svcGt_next.mp ht
    obtain ⟨_, _, _, _, _, _, e, -⟩ := svcGtStep_ownership s
    rw [e]
  | main =>
    obtain ⟨-, -, rfl⟩ := exec_main_next.mp ht
    exact mainStep_dispLog_le s
  | reset => exact absurd rfl hreset

/-- With the gate closed, no step but `MAIN` does more than turn the prescaler or take the pending
wrap. -/
theorem take_gateClosed_cases {st : TraceStep} {s t : State} (h : s.GateClosed)
    (ht : take st s = some t) (hmain : st ≠ .main) (hreset : st ≠ .reset) :
    (st = .svcPa ∧ t = svcPaStep s) ∨ ∃ n, t = { s with preCnt := n } := by
  rw [take_some] at ht
  cases st with
  | clk =>
    obtain ⟨-, rfl⟩ := exec_clk_next.mp ht
    exact .inr (clkStep_of_gateClosed h)
  | pulse =>
    obtain ⟨-, rfl⟩ := exec_pulse_next.mp ht
    exact .inr ⟨s.preCnt, pulseStep_of_gateClosed h⟩
  | svcPa =>
    obtain ⟨-, -, rfl⟩ := exec_svcPa_next.mp ht
    exact .inl ⟨rfl, rfl⟩
  | svcGt =>
    obtain ⟨-, hen, -⟩ := exec_svcGt_next.mp ht
    exact absurd ((svcGtEnabled_of_gateClosed h).symm.trans hen) Bool.false_ne_true
  | main => exact absurd rfl hmain
  | reset => exact absurd rfl hreset

section
variable {s : State} (h : s.Inv)
include h

/-- In an execution the gate is closed whenever the units are stopped. -/
theorem State.Inv.gateClosed_of_stopped (hstop : s.pa.en = false) : s.GateClosed := by
  have hgt : s.gt.en = false := h.r46.lockstep.symm.trans hstop
  refine ⟨hstop, hgt, Bool.eq_false_of_not_eq_true fun hovf => ?_⟩
  exact absurd (hgt.symm.trans (h.scheduled.eventRuns hovf)) Bool.false_ne_true

/-- Away from `C_POLL` the gate is closed. -/
theorem State.Inv.gateClosed_of_controller (hc : s.cState ≠ .poll) : s.GateClosed :=
  h.gateClosed_of_stopped (Bool.eq_false_of_not_eq_true fun hen => hc (h.scheduled.runsInPoll hen))

/-- In an execution a gate is being timed whenever the units run. -/
theorem State.Inv.gateRunning (hrun : s.pa.en = true) : s.GateRunning := by
  have hgt : s.gt.en = true := h.r46.lockstep.symm.trans hrun
  have hpre := h.inRange.preCnt
  have hpos := Config.prescale_pos h.valid
  refine ⟨hgt, h.r46.gtSource hgt, h.inRange.gtCnt, by omega, fun hgs => ?_, fun hgs => ?_⟩
  · exact ⟨(h.r46.remaining hgs).1, h.inRange.gsRemain⟩
  · exact absurd ((h.r46.stopped hgs).1.symm.trans hrun) Bool.false_ne_true

/-- A running gate belongs to a polling controller. -/
theorem State.Inv.polls (hrun : s.GateRunning) : s.cState = .poll :=
  h.scheduled.runsInPoll (h.r46.lockstep.trans hrun.enabled)

/-- A pending overflow of a running gate is serviceable. -/
theorem State.Inv.svcGtEnabled_of_running (hrun : s.GateRunning) (hovf : s.gt.ovf = true) :
    svcGtEnabled s = true :=
  (svcGtEnabled_iff s).mpr ⟨hovf, h.scheduled.gtListens hrun.enabled⟩

end

theorem State.GateRunning.servicesDue_pos {s : State} (h : s.GateRunning) : 0 < s.servicesDue := by
  cases hgs : s.gsState with
  | counting =>
    rw [servicesDue_of_counting hgs]
    exact Nat.succ_pos _
  | lastInterval =>
    rw [servicesDue_of_lastInterval hgs]
    exact Nat.one_pos
  | complete => exact absurd hgs h.notComplete

section
variable {st : TraceStep} {s t : State} (hstep : GateStep s st t) (hsvc : st ≠ .svcGt)
include hstep hsvc

/-- Without a service a running gate runs on, and owes as many services as before. -/
theorem GateStep.running_of_no_service (hv : s.cfg.Valid) (hrun : s.GateRunning) :
    t.GateRunning ∧ t.servicesDue = s.servicesDue := by
  have hdue : s.servicesDue = t.servicesDue := by simpa [hsvc] using hstep.servicesDue
  refine ⟨(hstep.inCycle hrun hv).resolve_right fun hshut => ?_, hdue.symm⟩
  have hpos := hrun.servicesDue_pos
  rw [hdue, State.servicesDue_of_complete hshut.2] at hpos
  exact Nat.lt_irrefl 0 hpos

/-- Without a service a pending overflow stays pending. -/
theorem GateStep.event_stays (hovf : s.gt.ovf = true) : t.gt.ovf = true := by
  cases hstep with
  | idle _ _ _ hsame => exact hsame.gt ▸ hovf
  | phase | tick => exact hovf
  | wrap => rfl
  | countdown | preload | close => exact absurd rfl hsvc

/-- Without a service, and with no overflow pending, every `CLK` step brings the gate one step nearer
to its end. -/
theorem GateStep.gateLeft_of_no_event (hv : s.cfg.Valid) (hrun : s.GateRunning)
    (hovf : s.gt.ovf = false) : s.gateLeft = t.gateLeft + if st = .clk then 1 else 0 := by
  have hpunctual : punctual st s ⟨0, 0⟩ = true := by
    cases st with
    | svcGt => exact absurd rfl hsvc
    | clk | pulse | svcPa | main | reset => rfl
  simpa [hrun.enabled] using
    hstep.gateLeft hrun hv (.of_no_event hovf _) (fun _ => hovf) hpunctual

end

/-! #### What becomes of an infinite execution -/

/-- The gate is closed and the controller, in `c`, goes on with a `MAIN` step. -/
structure State.AwaitsMain (s : State) (c : CState) : Prop where
  closed : s.GateClosed
  controller : s.cState = c

/-- A gate is being timed and goes on with a service, one of the `d` due. -/
structure State.AwaitsService (s : State) (d : Nat) : Prop where
  running : s.GateRunning
  due : s.servicesDue = d

/-- What is reached from a later moment is reached from now. -/
theorem reached_trans {P Q : Nat → Prop} {n : Nat} (hP : ∃ k, n ≤ k ∧ P k)
    (hQ : ∀ k, P k → ∃ m, k ≤ m ∧ Q m) : ∃ m, n ≤ m ∧ Q m := by
  obtain ⟨k, hk, hPk⟩ := hP
  obtain ⟨m, hm, hQm⟩ := hQ k hPk
  exact ⟨m, hk.trans hm, hQm⟩

section
variable {σ : Nat → State} {st : Nat → TraceStep}

theorem InfiniteRun.inv (hrun : InfiniteRun σ st) (hinv : (σ 0).Inv) (n : Nat) : (σ n).Inv := by
  induction n with
  | zero => exact hinv
  | succ n ih => exact exec_step_keeps_inv (st n) ih (take_some.mp (hrun n))

/-- While every step but `a` keeps `P`, an `a` step comes from a state of `P`, unless `P` can hold
for ever without one. -/
theorem taken_while {P : State → Prop} {a : TraceStep} {n : Nat} (hn : P (σ n))
    (hkeep : ∀ m, P (σ m) → st m ≠ a → P (σ (m + 1)))
    (hever : ¬∀ m, n ≤ m → P (σ m) ∧ st m ≠ a) : ∃ m, n ≤ m ∧ P (σ m) ∧ st m = a := by
  by_contra hnone
  have hnot (m : Nat) (hm : n ≤ m) (hP : P (σ m)) : st m ≠ a := fun ha => hnone ⟨m, hm, hP, ha⟩
  have hall (m : Nat) (hm : n ≤ m) : P (σ m) := by
    induction m, hm using Nat.le_induction with
    | base => exact hn
    | succ m hm ih => exact hkeep m ih (hnot m hm ih)
  exact hever fun m hm => ⟨hall m hm, hnot m hm (hall m hm)⟩

/-- So a step that fairness takes, where `P` keeps it enabled. -/
theorem taken_while_enabled {P : State → Prop} {en : State → Bool} {a : TraceStep} {n : Nat}
    (hfair : ∀ n, (∀ m, n ≤ m → en (σ m) = true) → ∃ m, n ≤ m ∧ st m = a)
    (hen : ∀ m, P (σ m) → en (σ m) = true) (hn : P (σ n))
    (hkeep : ∀ m, P (σ m) → st m ≠ a → P (σ (m + 1))) : ∃ m, n ≤ m ∧ P (σ m) ∧ st m = a := by
  refine taken_while hn hkeep fun hever => ?_
  obtain ⟨m, hm, ha⟩ := hfair n fun m hm => hen m (hever m hm).1
  exact (hever m hm).2 ha

/-- A fair infinite execution without `RESET`, with the invariant in every state. -/
structure FairRun (σ : Nat → State) (st : Nat → TraceStep) : Prop where
  inv : ∀ n, (σ n).Inv
  run : InfiniteRun σ st
  fair : Fair σ st
  noReset : ∀ n, st n ≠ .reset

variable (h : FairRun σ st)
include h

theorem FairRun.dispLog_mono {n m : Nat} (hm : n ≤ m) :
    (σ n).dispLog.length ≤ (σ m).dispLog.length := by
  induction m, hm using Nat.le_induction with
  | base => exact Nat.le_refl _
  | succ m _ ih => exact ih.trans (take_dispLog_le (h.run m) (h.noReset m))

/-- A `MAIN` step is taken with nothing serviceable, and is `mainStep`. -/
theorem FairRun.main_step {m : Nat} (hmain : st m = .main) :
    mainEnabled (σ m) = true ∧ σ (m + 1) = mainStep (σ m) := by
  have ht := h.run m
  rw [hmain, take_some] at ht
  obtain ⟨-, hen, e⟩ := exec_main_next.mp ht
  exact ⟨hen, e.symm⟩

/-! #### The controller's walk -/

section
variable {c : CState} {m : Nat} (hm : (σ m).AwaitsMain c)
include hm

/-- A closed gate stays closed, and the controller where it is, until a `MAIN` step. -/
theorem FairRun.awaitsMain_succ (hmain : st m ≠ .main) : (σ (m + 1)).AwaitsMain c :=
  ⟨(take_gateClosed hm.closed (h.run m) (h.noReset m) fun e => absurd e hmain).1,
    (take_cState (h.run m) hmain (h.noReset m)).trans hm.controller⟩

/-- A pending wrap stays serviceable until `SVC_PA`, and keeps `MAIN` waiting. -/
theorem FairRun.pulse_event_succ (hen : svcPaEnabled (σ m) = true) (hsvc : st m ≠ .svcPa) :
    (σ (m + 1)).AwaitsMain c ∧ svcPaEnabled (σ (m + 1)) = true := by
  have hmain : st m ≠ .main := fun hmain => by
    have hquiet := ((mainEnabled_iff_quiet _).mp (h.main_step hmain).1).1
    exact Bool.false_ne_true (hquiet.symm.trans hen)
  refine ⟨h.awaitsMain_succ hm hmain, ?_⟩
  obtain ⟨ha, -⟩ | ⟨_, e⟩ := take_gateClosed_cases hm.closed (h.run m) hmain (h.noReset m)
  · exact absurd ha hsvc
  · rw [e]
    exact hen

/-- With no wrap serviceable, none becomes so before a `MAIN` step. -/
theorem FairRun.pulse_quiet_succ (hquiet : svcPaEnabled (σ m) = false) (hmain : st m ≠ .main) :
    (σ (m + 1)).AwaitsMain c ∧ svcPaEnabled (σ (m + 1)) = false := by
  refine ⟨h.awaitsMain_succ hm hmain, ?_⟩
  obtain ⟨-, e⟩ | ⟨_, e⟩ := take_gateClosed_cases hm.closed (h.run m) hmain (h.noReset m)
  · rw [e]
    exact svcPaEnabled_svcPaStep _
  · rw [e]
    exact hquiet

end

/-- The pending wrap of a closed gate is taken, after which nothing is serviceable. -/
theorem FairRun.reaches_quiet {n : Nat} {c : CState} (hn : (σ n).AwaitsMain c) :
    ∃ m, n ≤ m ∧ (σ m).AwaitsMain c ∧ svcPaEnabled (σ m) = false := by
  by_cases hen : svcPaEnabled (σ n) = true
  case neg => exact ⟨n, Nat.le_refl n, hn, Bool.eq_false_of_not_eq_true hen⟩
  case pos =>
    obtain ⟨m, hm, ⟨hwait, -⟩, hsvc⟩ := taken_while_enabled
      (P := fun s => s.AwaitsMain c ∧ svcPaEnabled s = true) h.fair.svcPaTaken (fun _ hP => hP.2)
      ⟨hn, hen⟩ fun _ ⟨hwait, hpend⟩ hsvc => h.pulse_event_succ hwait hpend hsvc
    have ht := h.run m
    rw [hsvc, take_some] at ht
    obtain ⟨-, -, e⟩ := exec_svcPa_next.mp ht
    refine ⟨m + 1, Nat.le_succ_of_le hm, h.awaitsMain_succ hwait (by simp [hsvc]), ?_⟩
    rw [← e]
    exact svcPaEnabled_svcPaStep _

/-- With the gate closed the controller takes its next step. -/
theorem FairRun.main_taken {n : Nat} {c : CState} (hn : (σ n).AwaitsMain c) :
    ∃ m, n ≤ m ∧ (σ m).AwaitsMain c ∧ σ (m + 1) = mainStep (σ m) := by
  refine reached_trans (h.reaches_quiet hn) fun k hk => ?_
  obtain ⟨m, hm, ⟨hwait, -⟩, hmain⟩ := taken_while_enabled
    (P := fun s => s.AwaitsMain c ∧ svcPaEnabled s = false) h.fair.mainTaken
    (fun _ ⟨hwait, hquiet⟩ =>
      (mainEnabled_iff_quiet _).mpr ⟨hquiet, svcGtEnabled_of_gateClosed hwait.closed⟩)
    hk fun _ ⟨hwait, hquiet⟩ hmain => h.pulse_quiet_succ hwait hquiet hmain
  exact ⟨m, hm, hwait, (h.main_step hmain).2⟩

/-! #### The gate -/

/-- Within a running gate every step is a step of the gate. -/
theorem FairRun.gateStep {m : Nat} (hrun : (σ m).GateRunning) :
    GateStep (σ m) (st m) (σ (m + 1)) :=
  take_gateStep hrun (h.run m) (h.noReset m) fun _ => by simp [(h.inv m).polls hrun]

/-- A running gate runs on, owing what it owes, until a service. -/
theorem FairRun.awaitsService_succ {m d : Nat} (hm : (σ m).AwaitsService d)
    (hsvc : st m ≠ .svcGt) : (σ (m + 1)).AwaitsService d := by
  obtain ⟨hrun, hdue⟩ :=
    (h.gateStep hm.running).running_of_no_service hsvc (h.inv m).valid hm.running
  exact ⟨hrun, hdue.trans hm.due⟩

/-- A pending overflow of a running gate is serviced. -/
theorem FairRun.svcGt_of_event {n d : Nat} (hn : (σ n).AwaitsService d)
    (hovf : (σ n).gt.ovf = true) : ∃ m, n ≤ m ∧ st m = .svcGt := by
  obtain ⟨m, hm, -, hsvc⟩ := taken_while_enabled
    (P := fun s => s.AwaitsService d ∧ s.gt.ovf = true) h.fair.svcGtTaken
    (fun m ⟨hwait, hpend⟩ => (h.inv m).svcGtEnabled_of_running hwait.running hpend)
    ⟨hn, hovf⟩ fun m ⟨hwait, hpend⟩ hsvc =>
      ⟨h.awaitsService_succ hwait hsvc, (h.gateStep hwait.running).event_stays hsvc hpend⟩
  exact ⟨m, hm, hsvc⟩

/-- A quantity that never grows from `n` on, and that every `CLK` step lowers, falls below every
bound. -/
theorem FairRun.falls_below {f : Nat → Int} {n : Nat}
    (hf : ∀ m, n ≤ m → f m = f (m + 1) + if st m = .clk then 1 else 0) (b : Int) :
    ∃ m, n ≤ m ∧ f m ≤ b := by
  have hmono {k m : Nat} (hk : n ≤ k) (hm : k ≤ m) : f m ≤ f k := by
    induction m, hm using Nat.le_induction with
    | base => exact le_refl _
    | succ m hm ih =>
      have hstep := hf m (hk.trans hm)
      split at hstep <;> omega
  have hfall (d : Nat) : ∃ m, n ≤ m ∧ f m + d ≤ f n := by
    induction d with
    | zero => exact ⟨n, Nat.le_refl n, by simp⟩
    | succ d ih =>
      obtain ⟨k, hk, hd⟩ := ih
      obtain ⟨m, hm, hclk⟩ := h.fair.clkRecurs k
      have hstep := hf m (hk.trans hm)
      have hle := hmono hk hm
      rw [if_pos hclk] at hstep
      exact ⟨m + 1, Nat.le_succ_of_le (hk.trans hm), by push_cast; omega⟩
  obtain ⟨m, hm, hle⟩ := hfall (f n - b).toNat
  exact ⟨m, hm, by omega⟩

/-- A running gate is serviced: else no overflow would ever be pending, and the `CLK` steps would use
up what is left of the gate. -/
theorem FairRun.svcGt_taken {n d : Nat} (hn : (σ n).AwaitsService d) :
    ∃ m, n ≤ m ∧ (σ m).AwaitsService d ∧ st m = .svcGt := by
  refine taken_while (P := fun s => s.AwaitsService d) hn (fun _ => h.awaitsService_succ)
    fun hever => ?_
  have hquiet (m : Nat) (hm : n ≤ m) : (σ m).gt.ovf = false := by
    refine Bool.eq_false_of_not_eq_true fun hovf => ?_
    obtain ⟨k, hk, hsvc⟩ := h.svcGt_of_event (hever m hm).1 hovf
    exact (hever k (hm.trans hk)).2 hsvc
  have hclk (m : Nat) (hm : n ≤ m) :
      (σ m).gateLeft = (σ (m + 1)).gateLeft + if st m = .clk then 1 else 0 := by
    obtain ⟨⟨hrun, -⟩, hsvc⟩ := hever m hm
    exact (h.gateStep hrun).gateLeft_of_no_event hsvc (h.inv m).valid hrun (hquiet m hm)
  obtain ⟨m, hm, hle⟩ := h.falls_below hclk 0
  exact absurd ((hever m hm).1.running.gateLeft_pos (hquiet m hm)) (Int.not_lt.mpr hle)

/-- A running gate closes: every service is one of those due. -/
theorem FairRun.gate_closes {n d : Nat} (hn : (σ n).AwaitsService d) :
    ∃ m, n ≤ m ∧ (σ m).AwaitsMain .poll := by
  induction d generalizing n with
  | zero => exact absurd hn.due hn.running.servicesDue_pos.ne'
  | succ d ih =>
    refine reached_trans (h.svcGt_taken hn) fun m ⟨⟨hrun, hdue⟩, hsvc⟩ => ?_
    have hstep := h.gateStep hrun
    have hrest : (σ m).servicesDue = (σ (m + 1)).servicesDue + 1 := by
      simpa [hsvc] using hstep.servicesDue
    obtain hrun' | ⟨hclosed, -⟩ := hstep.inCycle hrun (h.inv m).valid
    · exact reached_trans ⟨m + 1, Nat.le_succ m, hrun', by omega⟩ fun _ => ih
    · refine ⟨m + 1, Nat.le_succ m, hclosed, ?_⟩
      exact (take_cState (h.run m) (by simp [hsvc]) (h.noReset m)).trans ((h.inv m).polls hrun)

/-! #### The cycle -/

/-- Away from `C_POLL` the controller goes on to the next state of its loop. -/
theorem FairRun.reaches_next {n : Nat} {c c' : CState} (hn : (σ n).cState = c) (hc : c ≠ .poll)
    (hnext : ∀ s : State, s.cState = c → (mainStep s).cState = c') :
    ∃ m, n ≤ m ∧ (σ m).cState = c' := by
  have hclosed := (h.inv n).gateClosed_of_controller (hn ▸ hc)
  obtain ⟨m, hm, hwait, e⟩ := h.main_taken ⟨hclosed, hn⟩
  exact ⟨m + 1, Nat.le_succ_of_le hm, by rw [e, hnext _ hwait.controller]⟩

/-- A poll goes on to the latch: its gate closes, and a closed gate has its flag set. -/
theorem FairRun.latch_of_poll {n : Nat} (hn : (σ n).cState = .poll) :
    ∃ m, n ≤ m ∧ (σ m).cState = .latch := by
  have hshut : ∃ k, n ≤ k ∧ (σ k).AwaitsMain .poll := by
    by_cases hrun : (σ n).pa.en = true
    · exact h.gate_closes ⟨(h.inv n).gateRunning hrun, rfl⟩
    · have hstop : (σ n).pa.en = false := Bool.eq_false_of_not_eq_true hrun
      exact ⟨n, Nat.le_refl n, (h.inv n).gateClosed_of_stopped hstop, hn⟩
  refine reached_trans hshut fun k hk => ?_
  obtain ⟨m, hm, ⟨hclosed, hc⟩, e⟩ := h.main_taken hk
  have hready : (σ m).dataReady = true := ((h.inv m).scheduled.pollWaits hc).resolve_left fun hrun =>
    Bool.false_ne_true (hclosed.paStopped.symm.trans hrun)
  exact ⟨m + 1, Nat.le_succ_of_le hm, by rw [e, mainStep_of_poll_ready hc hready]⟩

/-- The controller comes to `C_CLEAR` again and again. -/
theorem FairRun.reaches_clear (n : Nat) : ∃ m, n ≤ m ∧ (σ m).cState = .clear := by
  have hlatch (n : Nat) (hn : (σ n).cState = .latch) : ∃ m, n ≤ m ∧ (σ m).cState = .clear :=
    h.reaches_next hn nofun fun _ hc => by rw [mainStep_of_latch hc]
  have hpoll (n : Nat) (hn : (σ n).cState = .poll) : ∃ m, n ≤ m ∧ (σ m).cState = .clear :=
    reached_trans (h.latch_of_poll hn) hlatch
  have hrestart (n : Nat) (hn : (σ n).cState = .restart) : ∃ m, n ≤ m ∧ (σ m).cState = .clear :=
    reached_trans (h.reaches_next hn nofun fun _ hc => by rw [mainStep_of_restart hc]) hpoll
  cases hn : (σ n).cState with
  | clear => exact ⟨n, Nat.le_refl n, hn⟩
  | latch => exact hlatch n hn
  | poll => exact hpoll n hn
  | restart => exact hrestart n hn
  | boot =>
    exact reached_trans (h.reaches_next hn nofun fun _ hc => by rw [mainStep_of_boot hc]) hrestart
  | write =>
    exact reached_trans (h.reaches_next hn nofun fun _ hc => by rw [mainStep_of_write hc]) hrestart

/-- From `C_CLEAR` the controller sends a clear-line. -/
theorem FairRun.dispLog_grows (n : Nat) :
    ∃ m, n ≤ m ∧ (σ n).dispLog.length < (σ m).dispLog.length := by
  obtain ⟨k, hk, hc⟩ := h.reaches_clear n
  have hclosed := (h.inv k).gateClosed_of_controller (by simp [hc])
  obtain ⟨m, hm, hwait, e⟩ := h.main_taken ⟨hclosed, hc⟩
  have hnm : n ≤ m := hk.trans hm
  refine ⟨m + 1, Nat.le_succ_of_le hnm, ?_⟩
  rw [e, mainStep_of_clear hwait.controller, List.length_append, List.length_singleton]
  exact Nat.lt_succ_of_le (h.dispLog_mono hnm)

end

/-- Settles O58: the controller walks its loop again and again, since every gate closes, and each
time it sends a clear-line. -/
theorem fairExecutionsKeepReporting : Obligations.FairExecutionsKeepReporting :=
  fun _ _ hinv hrun hfair hreset => FairRun.dispLog_grows ⟨hrun.inv hinv, hrun, hfair, hreset⟩

end Sys2Proof.Machine
end

-- The reset and startup delay family (70_reset_and_hazards.md R230 to R232): the effect of `RESET`,
-- and what hardware events do while both units are disabled.
section
namespace Sys2Proof.Machine

/-- `RESET` writes every field of the block's state and none of the model's own. -/
theorem resetStep_eq (s : State) :
    resetStep s = {
      cfg := s.cfg, trace := s.trace, bench := s.bench,
      pa := { cnt := 0, en := false, cs := .int, ovie := false, ovf := false },
      gt := { cnt := 0, en := false, cs := .int, ovie := false, ovf := false },
      preCnt := 0, ovfTally := 0, gsRemain := s.cfg.gateBudget, gsState := .counting,
      dataReady := false, freq := 0, cState := .boot, dispLog := [] } := rfl

/-- Settles O42: the update of the state, and the code of R82. -/
theorem resetEffect : Obligations.ResetEffect :=
  ⟨fun s hv => exec_reset_next.mpr ⟨hv, resetStep_eq s⟩, itemCode_single .reset⟩

/-! ### Hardware events while both units are disabled (R232)

Unlike a closed gate (`State.GateClosed`), nothing is asked of the Gate Timer's pending bit. -/

section
variable {s : State} (hpa : s.pa.en = false) (hgt : s.gt.en = false)
include hpa hgt

theorem pulseStep_of_disabled : pulseStep s = s := by
  rw [pulseStep_eq, CountUnit.clocked_of_disabled hpa, CountUnit.clocked_of_disabled hgt]

theorem clkStep_of_disabled (hpre : s.preCnt < s.cfg.prescale) :
    clkStep s = { s with preCnt := (s.preCnt + 1) % s.cfg.prescale } := by
  rw [← clkStep_preCnt hpre]
  cases htick : atTick s with
  | true =>
    rw [clkStep_tick htick, CountUnit.clocked_of_disabled hpa, CountUnit.clocked_of_disabled hgt]
  | false => rw [clkStep_no_tick htick]

end

/-- Settles O49, by induction on the steps: each `CLK` adds one to the prescaler, and each `PULSE`
leaves the state as it is. -/
theorem startupDelayTurnsOnlyThePrescaler : Obligations.StartupDelayTurnsOnlyThePrescaler := by
  intro s steps hv hpa hgt hpre hsteps
  induction steps generalizing s with
  | nil => rw [List.count_nil, Nat.add_zero, Nat.mod_eq_of_lt hpre, runSteps]
  | cons st rest ih =>
    obtain ⟨hst, hrest⟩ := List.forall_mem_cons.mp hsteps
    obtain rfl | rfl := hst
    case inl =>
      have hlt : (s.preCnt + 1) % s.cfg.prescale < s.cfg.prescale :=
        Nat.mod_lt _ (Config.prescale_pos hv)
      refine runSteps_cons.mpr ⟨_, take_envEffect hv .clk, ?_⟩
      rw [envEffect, clkStep_of_disabled hpa hgt hpre,
        ih { s with preCnt := (s.preCnt + 1) % s.cfg.prescale } hv hpa hgt hlt hrest]
      simp only [List.count_cons_self, Nat.mod_add_mod, Nat.add_assoc, Nat.add_comm 1]
    case inr =>
      refine runSteps_cons.mpr ⟨_, take_envEffect hv .pulse, ?_⟩
      rw [envEffect, pulseStep_of_disabled hpa hgt, ih s hv hpa hgt hpre hrest,
        List.count_cons_of_ne (by decide)]

end Sys2Proof.Machine
end
